-- ==== Sys2Proof/Word.lean ====
section
/-!
DEFINITION. The words of the block and their plainest arithmetic: the widths that 00_scope.md R1 and R6,
10_state.md R15 and 30_encoding.md R39 fix. Bits are numbered from 0 at the least significant end (R7).
-/

namespace Sys2Proof

/-- One byte of a checksum payload (20_memory.md R28). -/
abbrev Byte := BitVec 8

/-- A data word of the stream: `WORD_BITS = 32` (R1). -/
abbrev Word := BitVec 32

/-- A frame: eight words, `FRAME_BITS = 256` (R1, R27). -/
abbrev Frame := BitVec 256

/-- A stream position: `POS_BITS = 16` (10_state.md R15). -/
abbrev Pos := BitVec 16

/-- An element of the input buffer: bit 32 is the sentinel mark S, bits 31:0 are WORD (30_encoding.md R39). -/
abbrev Token := BitVec 33

/-- A channel id or a bucket index as the encodings carry it, four bits wide (R41, R46). -/
abbrev Chan := BitVec 4

/-- A truth value as one bit. -/
def bit (b : Bool) : BitVec 1 := BitVec.ofBool b

end Sys2Proof
end

