-- ==== Sys2Proof/Config.lean ====
section
/-!
DEFINITION. What a built block fixes: the constants of 00_scope.md R1 and R6, the parameters of R2 to R5 as one record
(`Config`), their defaults, and the free values, which no Lean text can evaluate.
-/

namespace Sys2Proof

/-! ## Fixed constants (R1, R6) -/

/-- BUF_WORDS: data words of a buffer, followed by one sentinel (R1). -/
def bufWords : Nat := 50000

/-- FRAME_WORDS (R1). -/
def frameWords : Nat := 8

/-- PAYLOAD_BYTES: the checksummed bytes of a frame, bits 255:32 (R1). -/
def payloadLen : Nat := 28

/-- CRC_SEED (R1). -/
def crcSeed : Word := 0xFFFFFFFF#32

/-- CHANNEL_COUNT: the valid channels are 0..8 (R1). -/
def channelCount : Nat := 9

/-- OVF_INDEX: the overflow bucket (R1). -/
def ovfIndex : Chan := 9#4

/-- OOR_INDEX: the bucket for ids of 16 and more, which no path reaches (R1, R44, D30). -/
def oorIndex : Chan := 10#4

/-- NUM_BUCKETS: indices 0..10 (R1). -/
abbrev numBuckets : Nat := 11

/-- FILE_CTR_BITS (R6). -/
abbrev fileCtrBits : Nat := 32

/-- RUN_CTR_BITS (R6). -/
abbrev runCtrBits : Nat := 64

/-! ## Parameters (R2, R3, R5) -/

/-- LAYOUT (R3, R41): the least significant bit position, in the frame, of each field whose place the source does
not fix. The widths are fixed (R41), and so are error_flag at 255 and embedded_crc at 31:0. -/
structure Layout where
  channel : Nat
  timestamp : Nat
  injectedError : Nat
  expectedCode : Nat
  receivedCode : Nat
  errorPosition : Nat
  runningErrorCounter : Nat
deriving DecidableEq, Repr, Inhabited

/-- The default LAYOUT: the table of 30_encoding.md R41 (decision D5). -/
def Layout.standard : Layout where
  channel := 248
  timestamp := 221
  injectedError := 210
  expectedCode := 183
  receivedCode := 156
  errorPosition := 129
  runningErrorCounter := 85

/-- LOSS_RESUME (R5): where the next window stands after an alignment loss at `p`: `p + 1` or `p + 8`. -/
inductive LossResume where
  | slide
  | skip
deriving DecidableEq, Repr, Inhabited

/-- The parameters a block is instantiated with (R2, R3, R5); CRC_UPDATE is the opaque `Config.crcUpdate`. They are
configuration and no operation writes them (10_state.md R23). DR_RESIDUE and DR_CLAMP are plain numbers here, so that
the acceptance rule R116 has something to refuse. -/
structure Config where
  syncPattern : Frame
  layout : Layout
  drResidue : Nat
  drClamp : Nat
  lossResume : LossResume
deriving DecidableEq, Repr, Inhabited

/-! ## Free values -/

/-- CRC_UPDATE (R4): a supplied total pure function of which nothing else is assumed. -/
opaque Config.crcUpdate : Byte → Word → Word

/-- The bits behind SYNC_PATTERN's value, which no source gives (R2, decision D25). -/
opaque Config.syncPatternBits : Frame

/-- What HOST_RESET leaves in `acc` (10_state.md R24: unspecified), by the number of the draw. -/
opaque Config.freeWord : Nat → Word

/-- What HOST_RESET leaves in word `j` of the window `W` (R24: unspecified), by the number of the draw and `j`. -/
opaque Config.freeWindowWord : Nat → Nat → Word

/-- What element `i` of the buffer `B` holds while R24 leaves `B` unspecified, by the number of the draw and `i`. -/
opaque Config.freeToken : Nat → Nat → Token

/-- The bucket of a dead-reckoning observation with this invalid tentative channel under DR_CLAMP = 10, which R116 (4)
accepts: bucket 10 is never incremented (90_conflicts.md C9, 30_encoding.md R44, R49), bucket 9 counts none unless
DR_CLAMP = 9 (44_statistics_counter_array.md R95 (4)), so it is one of 0..8, and the spec does not say which. -/
opaque Config.freeClampBucket : Chan → Fin 9

/-- SYNC_PATTERN of the block that `State.reset` describes: any value but 0, the one constraint of R2 (R116 (1)). -/
def Config.syncOfReset : Frame :=
  if Config.syncPatternBits = 0#256 then 1#256 else Config.syncPatternBits

/-- The configuration `State.reset` stands for: the open pattern and the defaults of R3 and R5. -/
def Config.standard : Config where
  syncPattern := Config.syncOfReset
  layout := Layout.standard
  drResidue := 1
  drClamp := 8
  lossResume := .slide

end Sys2Proof
end

