-- ==== Sys2Proof/Syntax.lean ====
section
/-!
DEFINITION. The operations of the block, one constructor of `Instr` for each row of spec/opcode_table.json, and the
encoded form in which an operation is presented to one of the block's parts (30_encoding.md R45 to R47).
-/

namespace Sys2Proof

/-- The record of DEC_EXTRACT (43_frame_decoder.md R78): the named fields of a frame, each with its width. -/
structure Decoded where
  errorFlag : Bool
  channel : Chan
  timestamp : BitVec 27
  injectedError : BitVec 11
  expectedCode : BitVec 27
  receivedCode : BitVec 27
  errorPosition : BitVec 27
  runningErrorCounter : BitVec 44
  embeddedCrc : Word
deriving DecidableEq, Repr, Inhabited

/-- The operations, in the order of spec/opcode_table.json. The operands of an INTERNAL operation are the ones its rule
lists. A step outcome (SEL7) has no operand: it works on the state and the window. -/
inductive Instr where
  -- checksum_verifier (40)
  | ckUpdate (b : Byte) (acc : Word)
  | ckCompute (f : Frame)
  | ckVerify (f : Frame)
  -- frame_assembler (41)
  | asmLoad (raw : List Word)
  | asmEos (p : Pos)
  | asmNextFrame (p : Pos)
  | asmSlide (p : Pos)
  -- frame_sync_fsm (42)
  | eosFinalize
  | aFiller
  | aDataError
  | aDataOk
  | aLossCrc
  | aLossChannel
  | uSync
  | uDrOk
  | uDrError
  | uSkip
  | badChannel (channel : Chan) (flag crcOk : Bool)
  -- frame_decoder (43)
  | decExtract (f : Frame)
  | decClassify (d : Decoded) (crcOk : Bool) (computed : Word)
  | decErrorRecord (d : Decoded) (computed : Word)
  -- statistics_counter_array (44)
  | recFiller
  | recAlignedOk (k : Chan)
  | recAlignedError (k : Chan)
  | recNotAlignedOk (k : Chan)
  | recNotAlignedError (k : Chan)
  | recAlignmentLoss
  | recBadChannelId (c : Chan)
  | finalizeFile
  | clearAll
  -- host commands (45)
  | hostReset
  | hostRunBuffer (raw : List Word)
  | hostReadRun
deriving DecidableEq, Repr

/-- The rows of format INTERNAL: they have no selector bits and are invoked by name. -/
inductive InternalRow where
  | ckUpdate
  | ckCompute
  | ckVerify
  | asmLoad
  | asmEos
  | asmNextFrame
  | asmSlide
  | badChannel
  | decExtract
  | decClassify
  | decErrorRecord
deriving DecidableEq, Repr

/-- An operation as it is presented to a part of the block, in the four formats of spec/opcode_table.json: a host
command with its operand (R47), a statistics command (R46), a step selector (R45), or an internal row with its operand
words. -/
inductive OpWord where
  | host2 (code : BitVec 2) (raw : List Word)
  | cmd8 (cmd : BitVec 8)
  | sel7 (sel : BitVec 7)
  | internal (row : InternalRow) (operands : List Word)
deriving DecidableEq, Repr

/-- Is this operation word a host command? In a run of the block as the spec has it, the host presents only these
(60_exceptions.md R119). -/
def OpWord.isHost : OpWord → Bool
  | .host2 _ _ => true
  | _ => false

end Sys2Proof
end

