-- ==== Sys2Proof/WellFormed.lean ====
section
/-!
DEFINITION. The operand ranges the spec gives the operations: bucket indices 0..10 (30_encoding.md R46), raw reads of at
most BUF_WORDS words (41_frame_assembler.md R57, 45_host_interface.md R98), an error frame for DEC_ERROR_RECORD
(43_frame_decoder.md R80), an invalid channel for BAD_CHANNEL (42_frame_sync_fsm.md R64).
-/

namespace Sys2Proof

/-- A bucket index a REC_* command may carry: 0..10 (R46). -/
def legalBucket (k : Chan) : Bool := decide (k.toNat < numBuckets)

/-- A raw read the interface admits: `n <= BUF_WORDS` (R47, R98). -/
def legalRead (raw : List Word) : Bool := decide (raw.length ≤ bufWords)

/-- The operands of the operation lie in the ranges its rule gives. -/
def WellFormed : Instr → Bool
  | .asmLoad raw => legalRead raw
  | .hostRunBuffer raw => legalRead raw
  | .recAlignedOk k => legalBucket k
  | .recAlignedError k => legalBucket k
  | .recNotAlignedOk k => legalBucket k
  | .recNotAlignedError k => legalBucket k
  | .badChannel channel _ _ => decide (channelCount ≤ channel.toNat)
  | .decErrorRecord d _ => d.errorFlag
  | .ckUpdate _ _ => true
  | .ckCompute _ => true
  | .ckVerify _ => true
  | .asmEos _ => true
  | .asmNextFrame _ => true
  | .asmSlide _ => true
  | .eosFinalize => true
  | .aFiller => true
  | .aDataError => true
  | .aDataOk => true
  | .aLossCrc => true
  | .aLossChannel => true
  | .uSync => true
  | .uDrOk => true
  | .uDrError => true
  | .uSkip => true
  | .decExtract _ => true
  | .decClassify _ _ _ => true
  | .recFiller => true
  | .recAlignmentLoss => true
  | .recBadChannelId _ => true
  | .finalizeFile => true
  | .clearAll => true
  | .hostReset => true
  | .hostReadRun => true

end Sys2Proof
end

