-- ==== Sys2Proof/Decode.lean ====
section
/-!
DEFINITION. Decoding of an operation word to an operation, total, each rejection with a name; after it the encoder,
written from the same tables (30_encoding.md R45 to R47 and spec/opcode_table.json).
-/

namespace Sys2Proof

/-- Why an operation word decodes to no operation. -/
inductive Reject where
  /-- A statistics command with a reserved op, or a nonzero idx where the op takes none (R46, R49, R93). -/
  | badStatsCommand
  /-- Host code 3 (R47, R49). -/
  | reservedHostCommand
  /-- An internal row presented with operand words that are not its operands; the model's own reason (the spec gives
  internal rows no encoding at all). -/
  | malformedOperation
deriving DecidableEq, Repr

/-! ## Step selector (R45) -/

/-- One row of the operation map: it applies to `sel` when `sel &&& mask = value`. -/
structure SelRow where
  mask : BitVec 7
  value : BitVec 7
  op : Instr
deriving DecidableEq, Repr

/-- The ten rows of R45. -/
def selRows : List SelRow :=
  [ ⟨0x40#7, 0x40#7, .eosFinalize⟩,
    ⟨0x70#7, 0x30#7, .aFiller⟩,
    ⟨0x78#7, 0x28#7, .aDataError⟩,
    ⟨0x7E#7, 0x26#7, .aDataOk⟩,
    ⟨0x7C#7, 0x20#7, .aLossCrc⟩,
    ⟨0x7E#7, 0x24#7, .aLossChannel⟩,
    ⟨0x70#7, 0x10#7, .uSync⟩,
    ⟨0x79#7, 0x01#7, .uDrOk⟩,
    ⟨0x79#7, 0x09#7, .uDrError⟩,
    ⟨0x71#7, 0x00#7, .uSkip⟩ ]

/-- Does the row apply to this selector value? -/
def rowApplies (sel : BitVec 7) (r : SelRow) : Bool := sel &&& r.mask == r.value

/-- The operation a selector value selects (R45). The rows are complete, so the last case never arises; it stands for
U_SKIP, whose row is the last. -/
def decodeSel (sel : BitVec 7) : Instr :=
  match selRows.find? (rowApplies sel) with
  | some r => r.op
  | none => .uSkip

/-! ## Statistics command (R46) -/

/-- An operation that takes no idx: a nonzero one is illegal (R46, R93). -/
def noIdx (idx : Chan) (i : Instr) : Except Reject Instr :=
  if idx = 0#4 then .ok i else .error .badStatsCommand

/-- CMD = op[7:4] ++ idx[3:0] (R46). A bucket index of 11..15 still belongs to its row, as its mask says; the
operation itself then faults (R93). -/
def decodeCmd (cmd : BitVec 8) : Except Reject Instr :=
  let idx : Chan := cmd.extractLsb' 0 4
  match (cmd.extractLsb' 4 4).toNat with
  | 1 => noIdx idx .recFiller
  | 2 => .ok (.recAlignedOk idx)
  | 3 => .ok (.recAlignedError idx)
  | 4 => .ok (.recNotAlignedOk idx)
  | 5 => .ok (.recNotAlignedError idx)
  | 6 => noIdx idx .recAlignmentLoss
  | 7 => .ok (.recBadChannelId idx)
  | 8 => noIdx idx .finalizeFile
  | 9 => noIdx idx .clearAll
  | _ => .error .badStatsCommand

/-! ## Host command (R47) -/

/-- The host's code and operand. Codes 0 and 2 have no operand, so the list that comes with them is not looked at. -/
def decodeHost (code : BitVec 2) (raw : List Word) : Except Reject Instr :=
  match code.toNat with
  | 0 => .ok .hostReset
  | 1 => .ok (.hostRunBuffer raw)
  | 2 => .ok .hostReadRun
  | _ => .error .reservedHostCommand

/-! ## Internal rows

The spec gives them no bits. The operand words below are the model's own way to write their operands down: a value of
more than 32 bits takes several words, the first most significant, and a value of fewer bits is zero-extended. -/

/-- The value of an operand of `n` bits in one word, whose other bits must be 0. -/
def operandOf (n : Nat) (w : Word) : Option (BitVec n) :=
  if w.toNat < 2 ^ n then some (w.setWidth n) else none

/-- A one-bit operand in one word. -/
def flagOf (w : Word) : Option Bool :=
  if w = 0#32 then some false else if w = 1#32 then some true else none

/-- A frame from eight words, the first most significant (20_memory.md R27). -/
def frameOf : List Word → Option Frame
  | [w0, w1, w2, w3, w4, w5, w6, w7] => some (w0 ++ w1 ++ w2 ++ w3 ++ w4 ++ w5 ++ w6 ++ w7)
  | _ => none

/-- A decoded record from ten words: its fields in the order of R78, the running counter's high 12 bits first. -/
def decodedOf : List Word → Option Decoded
  | [flag, channel, timestamp, injected, expected, received, position, runHigh, runLow, crc] => do
    let flag ← flagOf flag
    let channel ← operandOf 4 channel
    let timestamp ← operandOf 27 timestamp
    let injected ← operandOf 11 injected
    let expected ← operandOf 27 expected
    let received ← operandOf 27 received
    let position ← operandOf 27 position
    let runHigh ← operandOf 12 runHigh
    return { errorFlag := flag, channel := channel, timestamp := timestamp, injectedError := injected,
             expectedCode := expected, receivedCode := received, errorPosition := position,
             runningErrorCounter := runHigh ++ runLow, embeddedCrc := crc }
  | _ => none

/-- The operation an internal row and its operand words stand for, where they are that row's operands. -/
def internalOf : InternalRow → List Word → Option Instr
  | .ckUpdate, [b, acc] => (operandOf 8 b).map fun b => .ckUpdate b acc
  | .ckCompute, ws => (frameOf ws).map .ckCompute
  | .ckVerify, ws => (frameOf ws).map .ckVerify
  | .asmLoad, raw => some (.asmLoad raw)
  | .asmEos, [p] => (operandOf 16 p).map .asmEos
  | .asmNextFrame, [p] => (operandOf 16 p).map .asmNextFrame
  | .asmSlide, [p] => (operandOf 16 p).map .asmSlide
  | .badChannel, [channel, flag, crcOk] => do
    let channel ← operandOf 4 channel
    let flag ← flagOf flag
    let crcOk ← flagOf crcOk
    return .badChannel channel flag crcOk
  | .decExtract, ws => (frameOf ws).map .decExtract
  | .decClassify, crcOk :: computed :: ws => do
    let crcOk ← flagOf crcOk
    let d ← decodedOf ws
    return .decClassify d crcOk computed
  | .decErrorRecord, computed :: ws => (decodedOf ws).map fun d => .decErrorRecord d computed
  | .ckUpdate, _ => none
  | .asmEos, _ => none
  | .asmNextFrame, _ => none
  | .asmSlide, _ => none
  | .badChannel, _ => none
  | .decClassify, _ => none
  | .decErrorRecord, _ => none

/-- The operation an internal row stands for, or the rejection. -/
def decodeInternal (row : InternalRow) (operands : List Word) : Except Reject Instr :=
  match internalOf row operands with
  | some i => .ok i
  | none => .error .malformedOperation

/-! ## The decoder -/

/-- The operation an operation word stands for, or the reason it stands for none. -/
def decode : OpWord → Except Reject Instr
  | .host2 code raw => decodeHost code raw
  | .cmd8 cmd => decodeCmd cmd
  | .sel7 sel => .ok (decodeSel sel)
  | .internal row operands => decodeInternal row operands

/-! ## Words named by their number of bits only

spec/opcode_table.json has three formats that overlap in the same byte (HOST2, SEL7 and CMD8 reach different parts of the
block, so the block never has to tell them apart). Where only a number of bits and a number are given, the model's own
convention below names the format. -/

/-- The format of a byte: a host code where bits 7:2 are 0; else a selector where the byte is a SEL7 row's own match
word with a nonzero low digit; else a statistics command. -/
def byteWord (b : BitVec 8) : OpWord :=
  if b.toNat < 4 then .host2 (b.setWidth 2) []
  else if b.extractLsb' 0 4 ≠ 0#4 ∧ selRows.any (fun r => r.value.setWidth 8 == b) then .sel7 (b.setWidth 7)
  else .cmd8 b

/-- The operation word that `nbits` bits of value `w` stand for: 2 bits are a host code, 3 to 7 a selector, 8 a byte as
`byteWord` says, 9 to 16 the operand `p` of ASM_EOS. Operand words are zeros, so a raw read is empty. -/
def tableWord (nbits w : Nat) : Option OpWord :=
  if nbits ≤ 2 then some (.host2 (BitVec.ofNat 2 w) [])
  else if nbits ≤ 7 then some (.sel7 (BitVec.ofNat 7 w))
  else if nbits ≤ 8 then some (byteWord (BitVec.ofNat 8 w))
  else if nbits ≤ 16 then some (.internal .asmEos [(BitVec.ofNat 16 w).setWidth 32])
  else none

/-- The operation the decoder reads from the word that `nbits` bits of value `w` stand for. -/
def decodeTableWord (nbits w : Nat) : Option Instr :=
  match tableWord nbits w with
  | some ow =>
    match decode ow with
    | .ok i => some i
    | .error _ => none
  | none => none

/-! ## The encoder -/

/-- One operand in one word, zero-extended. -/
def operandWord {n : Nat} (v : BitVec n) : Word := v.setWidth 32

/-- One bit in one word. -/
def flagWord (b : Bool) : Word := (bit b).setWidth 32

/-- The eight words of a frame, most significant first (20_memory.md R27). -/
def frameWordsOf (f : Frame) : List Word :=
  [f.extractLsb' 224 32, f.extractLsb' 192 32, f.extractLsb' 160 32, f.extractLsb' 128 32,
   f.extractLsb' 96 32, f.extractLsb' 64 32, f.extractLsb' 32 32, f.extractLsb' 0 32]

/-- The ten words of a decoded record. -/
def decodedWordsOf (d : Decoded) : List Word :=
  [flagWord d.errorFlag, operandWord d.channel, operandWord d.timestamp, operandWord d.injectedError,
   operandWord d.expectedCode, operandWord d.receivedCode, operandWord d.errorPosition,
   operandWord (d.runningErrorCounter.extractLsb' 32 12), d.runningErrorCounter.extractLsb' 0 32, d.embeddedCrc]

/-- A statistics command: op in bits 7:4, idx in bits 3:0 (R46). -/
def statsWord (op idx : Chan) : BitVec 8 := op ++ idx

/-- The operation word of an operation: its row's match word with the operand bits in place (R45 to R47), and for an
internal row its operand words. -/
def encode : Instr → OpWord
  | .ckUpdate b acc => .internal .ckUpdate [operandWord b, acc]
  | .ckCompute f => .internal .ckCompute (frameWordsOf f)
  | .ckVerify f => .internal .ckVerify (frameWordsOf f)
  | .asmLoad raw => .internal .asmLoad raw
  | .asmEos p => .internal .asmEos [operandWord p]
  | .asmNextFrame p => .internal .asmNextFrame [operandWord p]
  | .asmSlide p => .internal .asmSlide [operandWord p]
  | .eosFinalize => .sel7 0x40#7
  | .aFiller => .sel7 0x30#7
  | .aDataError => .sel7 0x28#7
  | .aDataOk => .sel7 0x26#7
  | .aLossCrc => .sel7 0x20#7
  | .aLossChannel => .sel7 0x24#7
  | .uSync => .sel7 0x10#7
  | .uDrOk => .sel7 0x01#7
  | .uDrError => .sel7 0x09#7
  | .uSkip => .sel7 0x00#7
  | .badChannel channel flag crcOk => .internal .badChannel [operandWord channel, flagWord flag, flagWord crcOk]
  | .decExtract f => .internal .decExtract (frameWordsOf f)
  | .decClassify d crcOk computed => .internal .decClassify (flagWord crcOk :: computed :: decodedWordsOf d)
  | .decErrorRecord d computed => .internal .decErrorRecord (computed :: decodedWordsOf d)
  | .recFiller => .cmd8 (statsWord 1#4 0#4)
  | .recAlignedOk k => .cmd8 (statsWord 2#4 k)
  | .recAlignedError k => .cmd8 (statsWord 3#4 k)
  | .recNotAlignedOk k => .cmd8 (statsWord 4#4 k)
  | .recNotAlignedError k => .cmd8 (statsWord 5#4 k)
  | .recAlignmentLoss => .cmd8 (statsWord 6#4 0#4)
  | .recBadChannelId c => .cmd8 (statsWord 7#4 c)
  | .finalizeFile => .cmd8 (statsWord 8#4 0#4)
  | .clearAll => .cmd8 (statsWord 9#4 0#4)
  | .hostReset => .host2 0#2 []
  | .hostRunBuffer raw => .host2 1#2 raw
  | .hostReadRun => .host2 2#2 []

end Sys2Proof
end

