-- ==== Sys2Proof/Machine/State.lean ====
section
/-!
DEFINITION. The state of the block (10_state.md R11), its output records (30_encoding.md R48), the reasons it stops, and
the state after reset (R24). Plain data throughout. Four fields are the MODEL's own and say so: `config`, `inbox`,
`result` and `freeDraws`.
-/

namespace Sys2Proof.Machine

/-- `phase` (10_state.md R13). -/
inductive Phase where
  | idle
  | running
deriving DecidableEq, Repr, Inhabited

/-- `aligned`, the AlignmentState (10_state.md R14). -/
inductive Alignment where
  | unaligned
  | aligned
deriving DecidableEq, Repr, Inhabited

/-! ## The window and the buffer -/

/-- `W[0..7]` (10_state.md R16); `w0` is the leading, oldest word. -/
structure Window where
  w0 : Word
  w1 : Word
  w2 : Word
  w3 : Word
  w4 : Word
  w5 : Word
  w6 : Word
  w7 : Word
deriving DecidableEq, Repr, Inhabited

/-- What an element of the buffer that has no entry reads as. -/
inductive Fill where
  /-- The zero-word, S = 0: after ASM_LOAD, whose padding it is (41_frame_assembler.md R57). -/
  | zero
  /-- Unspecified (10_state.md R24): draw number `draw` of the opaque `Config.freeToken`. -/
  | free (draw : Nat)
deriving DecidableEq, Repr, Inhabited

/-- `B[0..BUF_WORDS]` (R11, R25): the elements that differ from the fill, by index. `Buffer.wf` in Machine/Ops.lean is
its canonical form. -/
structure Buffer where
  fill : Fill
  cells : List (Nat × Token)
deriving DecidableEq, Repr, Inhabited

/-! ## Counters -/

/-- The seven numeric fields of FileStats, in the source's order (10_state.md R19, R21). -/
structure Counters (w : Nat) where
  fillerFrames : BitVec w
  alignedOk : BitVec w
  alignedError : BitVec w
  notAlignedOk : BitVec w
  notAlignedError : BitVec w
  alignmentLossEvents : BitVec w
  badChannelIdEvents : BitVec w
deriving DecidableEq, Repr, Inhabited

/-- The four counters of one channel bucket (10_state.md R20, R21). -/
structure Bucket (w : Nat) where
  alignedOk : BitVec w
  alignedError : BitVec w
  notAlignedOk : BitVec w
  notAlignedError : BitVec w
deriving DecidableEq, Repr, Inhabited

/-- All seven counters at 0. -/
def Counters.zero (w : Nat) : Counters w := ⟨0#w, 0#w, 0#w, 0#w, 0#w, 0#w, 0#w⟩

/-- A bucket whose four counters are 0. -/
def Bucket.zero (w : Nat) : Bucket w := ⟨0#w, 0#w, 0#w, 0#w⟩

/-- A channel array: buckets 0..8 are the valid channels, 9 is the overflow bucket, 10 the out-of-declared-range bucket
(10_state.md R20). -/
abbrev Channels (w : Nat) := Vector (Bucket w) numBuckets

/-- A channel array of zeros. -/
def Channels.zero (w : Nat) : Channels w := Vector.replicate numBuckets (Bucket.zero w)

/-! ## Output events (30_encoding.md R48) -/

/-- The fields of EV_ERROR_RECORD, in R48's order. `checksumDelta` is a 33-bit two's-complement number (R81). -/
structure ErrorRecord where
  channel : Chan
  injectedError : BitVec 11
  runningErrorCounter : BitVec 44
  checksumDelta : BitVec 33
  timestampField : BitVec 27
  expectedCode : BitVec 27
  receivedCode : BitVec 27
  errorPosition : BitVec 27
  embeddedCrc : Word
  computedCrc : Word
deriving DecidableEq, Repr, Inhabited

/-- The fields of EV_BAD_CHANNEL. -/
structure BadChannelReport where
  channel : Chan
  errorFlag : Bool
  crcOk : Bool
  position : Pos
deriving DecidableEq, Repr, Inhabited

/-- The fields of EV_FILE_SUMMARY. -/
structure FileSummary where
  fileIndex : BitVec 64
  counters : Counters fileCtrBits
  isAllFiller : Bool
  totalFrames : BitVec fileCtrBits
  channels : Channels fileCtrBits
deriving DecidableEq, Repr, Inhabited

/-- The fields of EV_RUN_SUMMARY. -/
structure RunSummary where
  buffersProcessed : BitVec runCtrBits
  counters : Counters runCtrBits
  totalFrames : BitVec runCtrBits
  alignment : Alignment
  channels : Channels runCtrBits
deriving DecidableEq, Repr, Inhabited

/-- The four kinds of output event. -/
inductive Event where
  | errorRecord (r : ErrorRecord)
  | badChannel (r : BadChannelReport)
  | fileSummary (r : FileSummary)
  | runSummary (r : RunSummary)
deriving DecidableEq, Repr

/-! ## Results of internal operations -/

/-- The cause of a Loss tag (43_frame_decoder.md R79). -/
inductive LossCause where
  | crc
  | channel
deriving DecidableEq, Repr, Inhabited

/-- The fields of a DataError tag (R79). -/
structure DataErrorFields where
  channel : Chan
  injectedErrorCount : BitVec 11
  runningErrorCounter : BitVec 44
  timestampField : BitVec 27
  expectedCode : BitVec 27
  receivedCode : BitVec 27
  errorPosition : BitVec 27
  embeddedCrc : Word
  computedCrc : Word
deriving DecidableEq, Repr, Inhabited

/-- The tags of DEC_CLASSIFY (43_frame_decoder.md R79). -/
inductive FrameClass where
  | dataOk (channel : Chan) (checksumOk : Bool)
  | loss (cause : LossCause) (channel : Chan)
  | dataError (fields : DataErrorFields)
deriving DecidableEq, Repr

/-- What an INTERNAL operation returns: the "Result" of its rule. -/
inductive OpResult where
  /-- No internal operation has run. -/
  | nothing
  /-- CK_UPDATE and CK_COMPUTE: a checksum value (40_checksum_verifier.md R52, R53). -/
  | checksum (value : Word)
  /-- CK_VERIFY: `crc_ok` and `computed` (R54). -/
  | verify (crcOk : Bool) (computed : Word)
  /-- ASM_EOS: the selector bit `eos` (41_frame_assembler.md R58). -/
  | eos (value : Bool)
  /-- DEC_EXTRACT: the record `d` (43_frame_decoder.md R78). -/
  | fields (d : Decoded)
  /-- DEC_CLASSIFY: the tag (R79). -/
  | tag (c : FrameClass)
  /-- DEC_ERROR_RECORD: the fields of EV_ERROR_RECORD (R80). -/
  | record (r : ErrorRecord)
deriving DecidableEq, Repr

/-! ## Stops -/

/-- Why the machine stops with a fault: `Faulted(reason)` of 60_exceptions.md R114, which no step leaves. -/
inductive Fault where
  /-- BadStatsCommand, the only reason R114 has: a statistics command with a reserved op or an idx outside its op's
  range (44_statistics_counter_array.md R93). Raised by the REC_* operations of buckets and by the fetch of a reserved
  command. Safe: the spec itself stops there. -/
  | badStatsCommand
deriving DecidableEq, Repr

/-- Why the machine has no step (60_exceptions.md R115). -/
inductive Refusal where
  /-- An operation of the table that has no meaning yet. Safe. -/
  | notModelled (mnemonic : String)
  /-- OversizeRead: HOST_RUN_BUFFER (or ASM_LOAD) with more than BUF_WORDS words (45_host_interface.md R98, R57). Raised
  by `execHostRunBuffer` and `execAsmLoad`. Safe: the spec itself refuses. -/
  | oversizeRead
  /-- ReservedHostCommand: host code 3 (30_encoding.md R49). Raised by the fetch. Safe: the spec itself refuses. -/
  | reservedHostCommand
  /-- BadConfig: an instantiation that breaks 60_exceptions.md R116. Raised by `instantiate`. Safe: the spec itself
  refuses (R115). -/
  | badConfig
  /-- An internal row presented with words that are not its operands; the model's own reason, raised by the fetch of
  such a word, which no part of the block forms. Safe. -/
  | malformedOperation
deriving DecidableEq, Repr

/-! ## The state -/

/-- The state: every element of 10_state.md R11, the output stream of 45_host_interface.md R101, and the model's own
fields. -/
structure State where
  /-- `phase` (R13). -/
  phase : Phase
  /-- `aligned` (R14). -/
  alignment : Alignment
  /-- `p`, the stream position (R15). -/
  p : Pos
  /-- `B[0..BUF_WORDS]` (R11, R25). -/
  buffer : Buffer
  /-- `W[0..7]` (R16). -/
  window : Window
  /-- `acc` (R18). -/
  acc : Word
  /-- `file.*` (R19). -/
  file : Counters fileCtrBits
  /-- `fchan[0..10]` (R20). -/
  fchan : Channels fileCtrBits
  /-- `run.*` (R21). -/
  run : Counters runCtrBits
  /-- `rchan[0..10]` (R21). -/
  rchan : Channels runCtrBits
  /-- `buffersProcessed` (R22). -/
  buffersProcessed : BitVec runCtrBits
  /-- The output stream, oldest event first (45_host_interface.md R101). -/
  out : List Event
  /-- The model's own: the parameters the block was built with (R23: configuration, which no operation writes). -/
  config : Config
  /-- The model's own: the operations that wait to be presented to the block, the next one first. In a run as the spec
  has it these are the host's commands. -/
  inbox : List OpWord
  /-- The model's own: what the last INTERNAL operation that ran by itself returned. No step of a buffer writes it and
  nothing reads it. -/
  result : OpResult
  /-- The model's own: how many draws of free values have been made. -/
  freeDraws : Nat
deriving DecidableEq, Repr

/-- The block at power-up, which is the state HOST_RESET leaves (10_state.md R24, 70_reset_and_hazards.md R125). R24
leaves `B`, `W` and `acc` unspecified: `B` is the first draw of free tokens, `W` and `acc` are 0 (DESIGN CHOICE,
notes/assumptions/3.md). -/
def State.reset : State where
  phase := .idle
  alignment := .unaligned
  p := 0#16
  buffer := ⟨.free 0, []⟩
  window := ⟨0#32, 0#32, 0#32, 0#32, 0#32, 0#32, 0#32, 0#32⟩
  acc := 0#32
  file := Counters.zero fileCtrBits
  fchan := Channels.zero fileCtrBits
  run := Counters.zero runCtrBits
  rchan := Channels.zero runCtrBits
  buffersProcessed := 0#64
  out := []
  config := Config.standard
  inbox := []
  result := .nothing
  freeDraws := 1

end Sys2Proof.Machine
end

