-- ==== Sys2Proof/Machine/Operands.lean ====
section
/-!
DEFINITION. The operand forms: tokens (30_encoding.md R39), the frame of a window and its payload bytes (20_memory.md R27,
R28), the field split of a frame (43_frame_decoder.md R78), the tentative fields of dead reckoning (30_encoding.md R42) and
the two ways from a channel to a bucket (R44).
-/

namespace Sys2Proof.Machine

/-! ## Tokens (R39) -/

/-- A data token: S = 0. -/
def dataToken (w : Word) : Token := 0#1 ++ w

/-- The end sentinel as ASM_LOAD writes it: S = 1, WORD = 0 (R57). -/
def sentinelToken : Token := 1#1 ++ (0#32 : Word)

/-- S: bit 32 of a token. -/
def tokenIsSentinel (t : Token) : Bool := t.getLsbD 32

/-- WORD: bits 31:0 of a token. -/
def tokenWord (t : Token) : Word := t.extractLsb' 0 32

/-! ## Frames (R27, R28) -/

/-- `F = W[0] ++ W[1] ++ ... ++ W[7]`, the first-read word most significant (R27). -/
def frameOfWindow (v : Window) : Frame :=
  v.w0 ++ v.w1 ++ v.w2 ++ v.w3 ++ v.w4 ++ v.w5 ++ v.w6 ++ v.w7

/-- `W[j]`, for j = 0..7 (10_state.md R16). -/
def windowWord (v : Window) (j : Nat) : Word :=
  match j with
  | 0 => v.w0
  | 1 => v.w1
  | 2 => v.w2
  | 3 => v.w3
  | 4 => v.w4
  | 5 => v.w5
  | 6 => v.w6
  | _ => v.w7

/-- The frame of the state's window. -/
def State.frame (s : State) : Frame := frameOfWindow s.window

/-- Payload byte `k`, for k = 0..27: `F[255 - 8k : 248 - 8k]` (R28). -/
def payloadByte (f : Frame) (k : Nat) : Byte := f.extractLsb' (248 - 8 * k) 8

/-- The 28 payload bytes, byte 0 first (R28). -/
def payloadBytes (f : Frame) : List Byte := (List.range payloadLen).map (payloadByte f)

/-- error_flag: `F[255]`, fixed (30_encoding.md R41). -/
def errorFlagOf (f : Frame) : Bool := f.getLsbD 255

/-- embedded_crc: `F[31:0]`, fixed (R41). -/
def embeddedCrcOf (f : Frame) : Word := f.extractLsb' 0 32

/-- The decoded channel: four bits at the LAYOUT's place (R41, R78). -/
def channelOf (l : Layout) (f : Frame) : Chan := f.extractLsb' l.channel 4

/-- DEC_EXTRACT's field split (43_frame_decoder.md R78). Every field is unsigned, unscaled (R43). -/
def extractFields (l : Layout) (f : Frame) : Decoded where
  errorFlag := errorFlagOf f
  channel := channelOf l f
  timestamp := f.extractLsb' l.timestamp 27
  injectedError := f.extractLsb' l.injectedError 11
  expectedCode := f.extractLsb' l.expectedCode 27
  receivedCode := f.extractLsb' l.receivedCode 27
  errorPosition := f.extractLsb' l.errorPosition 27
  runningErrorCounter := f.extractLsb' l.runningErrorCounter 44
  embeddedCrc := embeddedCrcOf f

/-- The decoded record of the state's window. -/
def State.decoded (s : State) : Decoded := extractFields s.config.layout s.frame

/-- The tentative channel of dead reckoning: `F[251:248]`, whatever the LAYOUT (R42). -/
def tentativeChannel (f : Frame) : Chan := f.extractLsb' 248 4

/-! ## From a channel to a bucket (R44) -/

/-- Is the channel one of the CHANNEL_COUNT valid ones? -/
def channelValid (ch : Chan) : Bool := decide (ch.toNat < channelCount)

/-- `route`, of the aligned path: an invalid channel goes to the overflow bucket (R44). -/
def route (ch : Chan) : Chan := if channelValid ch then ch else ovfIndex

/-- `clamp`, of dead reckoning: an invalid tentative channel goes to bucket DR_CLAMP (R44). No path produces bucket 10
(R44, 90_conflicts.md C9), so under DR_CLAMP = 10 the bucket is a free value (DEDUCED, assumption 11). -/
def clamp (c : Config) (tch : Chan) : Chan :=
  if channelValid tch then tch
  else if c.drClamp = oorIndex.toNat then BitVec.ofNat 4 (Config.freeClampBucket tch).val
  else BitVec.ofNat 4 c.drClamp

end Sys2Proof.Machine
end

