-- ==== Sys2Proof/Machine/Flags.lean ====
section
/-!
DEFINITION. The flag computations: the checksum comparison (40_checksum_verifier.md R53, R54), the seven bits of the step
selector (30_encoding.md R45, 42_frame_sync_fsm.md R62), the summary flags and sums (44_statistics_counter_array.md R90,
R91) and the signed checksum delta (43_frame_decoder.md R81).
-/

namespace Sys2Proof.Machine

/-! ## Checksum -/

/-- The left fold of an update function over bytes, from a seed (R53, R56 (3)). -/
def foldBytes (update : Byte → Word → Word) (seed : Word) (bytes : List Byte) : Word :=
  bytes.foldl (fun acc b => update b acc) seed

/-- CK_COMPUTE of a frame: CRC_UPDATE folded over the 28 payload bytes from CRC_SEED, with no final transformation
(R53). -/
def checksumOf (f : Frame) : Word := foldBytes Config.crcUpdate crcSeed (payloadBytes f)

/-- `crc_ok`: the computed checksum equals `F[31:0]` in all 32 bits (R54). -/
def crcOkOf (f : Frame) : Bool := checksumOf f == embeddedCrcOf f

/-- `DELTA(computed, embedded)`, the exact signed difference (R81). -/
def deltaInt (computed embedded : Word) : Int := (computed.toNat : Int) - (embedded.toNat : Int)

/-- The delta as the 33-bit two's-complement value the record holds (R81). -/
def delta (computed embedded : Word) : BitVec 33 := BitVec.ofInt 33 (deltaInt computed embedded)

/-! ## Step selector -/

/-- `eos`: no whole window of data words stands at `p` (41_frame_assembler.md R58). The sum is not cut to 16 bits. -/
def eosAt (p : Pos) : Bool := decide (bufWords < p.toNat + frameWords)

/-- Bit 5 of the selector. -/
def alignedBit : Alignment → Bool
  | .aligned => true
  | .unaligned => false

/-- `sync`: the window equals SYNC_PATTERN. -/
def syncHere (s : State) : Bool := s.frame == s.config.syncPattern

/-- `dr_phase` before its enabling condition: `p mod 8 == DR_RESIDUE`. -/
def residueHere (s : State) : Bool := decide (s.p.toNat % 8 = s.config.drResidue)

/-- Is this a window whose checksum and fields STEP evaluates: aligned and not the sync pattern (R55, R62)? -/
def checksHere (s : State) : Bool := alignedBit s.alignment && !syncHere s

/-- Is this a window of which STEP computes `dr_phase`: unaligned and not the sync pattern (R62)? -/
def reckonsHere (s : State) : Bool := !alignedBit s.alignment && !syncHere s

/-- `SEL = eos ++ aligned ++ sync ++ flag ++ crc_ok ++ ch_valid ++ dr_phase` (R45, R62). With `eos` = 1 the other bits
are not computed; the row of EOS_FINALIZE does not look at them, and they are written 0 here. -/
def selector (s : State) : BitVec 7 :=
  if eosAt s.p then 0x40#7
  else
    bit false ++ bit (alignedBit s.alignment) ++ bit (syncHere s) ++ bit (errorFlagOf s.frame) ++
      bit (checksHere s && crcOkOf s.frame) ++
      bit (checksHere s && channelValid s.decoded.channel) ++
      bit (reckonsHere s && residueHere s)

/-! ## Summaries -/

/-- IS_ALL_FILLER (R90). -/
def isAllFiller {w : Nat} (c : Counters w) : Bool := c.alignedOk == 0#w && c.alignedError == 0#w

/-- TOTAL_FRAMES, at the width of the counters (R91). -/
def totalFrames {w : Nat} (c : Counters w) : BitVec w :=
  c.fillerFrames + c.alignedOk + c.alignedError + c.notAlignedOk + c.notAlignedError + c.alignmentLossEvents

end Sys2Proof.Machine
end

