-- ==== Sys2Proof/Machine/Ops.lean ====
section
/-!
DEFINITION. The named operations over the buffer, the window, the counters and the output stream, which the meanings
share. The block has no trap (60_exceptions.md R108, R111, R112): every condition is handled by a step's own outcome, and
what the shared exception entry of another machine would be is `loseAlignment` in Machine/Fsm.lean here.
-/

namespace Sys2Proof.Machine

/-- The outcome of a step of this machine. -/
abbrev Result := Host.Outcome State Fault Refusal

/-- First one action, then another on the state it leaves; a stop of the first is the stop of both. -/
def andThen (o : Result) (next : State → Result) : Result :=
  match o with
  | .next s => next s
  | .fault r => .fault r
  | .refused r => .refused r

/-- The next state of an outcome, where it has one. -/
def nextState? : Result → Option State
  | .next s => some s
  | .fault _ => none
  | .refused _ => none

/-! ## The buffer (20_memory.md R25, R26, R31) -/

/-- What an element without an entry reads as: the one definition of it. -/
def fillToken (f : Fill) (i : Nat) : Token :=
  match f with
  | .zero => dataToken 0#32
  | .free draw => Config.freeToken draw i

/-- The entry of index `i` in a list of entries, or the given token. -/
def cellAt (dflt : Token) (i : Nat) : List (Nat × Token) → Token
  | [] => dflt
  | (j, t) :: rest => if j = i then t else cellAt dflt i rest

/-- `B[i]`, or `MemRead(i, 1)`: one whole token, with no side effect (R31). -/
def bufferRead (b : Buffer) (i : Nat) : Token := cellAt (fillToken b.fill i) i b.cells

/-- Every entry's index is at least `lo`, and the indices rise strictly. -/
def risingFrom (lo : Nat) : List (Nat × Token) → Bool
  | [] => true
  | (i, _) :: rest => decide (lo ≤ i) && risingFrom (i + 1) rest

/-- The canonical form of a buffer: indices strictly rising, each an element of the buffer, and no entry equal to what an
element without an entry reads as. While the contents are unspecified there are no entries. -/
def Buffer.wf (b : Buffer) : Bool :=
  match b.fill with
  | .zero => risingFrom 0 b.cells && b.cells.all fun c => decide (c.1 ≤ bufWords) && c.2 != dataToken 0#32
  | .free _ => b.cells.isEmpty

/-- The entries of a raw read whose first word has index `i`, with the sentinel after the padding (R57). -/
def loadCells (i : Nat) : List Word → List (Nat × Token)
  | [] => [(bufWords, sentinelToken)]
  | w :: rest => if w = 0#32 then loadCells (i + 1) rest else (i, dataToken w) :: loadCells (i + 1) rest

/-- The buffer ASM_LOAD builds of a raw read of at most BUF_WORDS words: the words, zero-words up to BUF_WORDS, one
sentinel (20_memory.md R26, 41_frame_assembler.md R57). -/
def loadBuffer (raw : List Word) : Buffer := ⟨.zero, loadCells 0 raw⟩

/-! ## The window (10_state.md R16, R59, R60) -/

/-- `B[p + j].WORD` for j = 0..7. -/
def windowAt (b : Buffer) (p : Nat) : Window where
  w0 := tokenWord (bufferRead b p)
  w1 := tokenWord (bufferRead b (p + 1))
  w2 := tokenWord (bufferRead b (p + 2))
  w3 := tokenWord (bufferRead b (p + 3))
  w4 := tokenWord (bufferRead b (p + 4))
  w5 := tokenWord (bufferRead b (p + 5))
  w6 := tokenWord (bufferRead b (p + 6))
  w7 := tokenWord (bufferRead b (p + 7))

/-- The window without its oldest word, with `w` appended (R60). -/
def shiftWindow (v : Window) (w : Word) : Window where
  w0 := v.w1
  w1 := v.w2
  w2 := v.w3
  w3 := v.w4
  w4 := v.w5
  w5 := v.w6
  w6 := v.w7
  w7 := w

/-- ASM_LOAD's effect for a raw read that fits (R57). -/
def loadRead (raw : List Word) (s : State) : State :=
  { s with buffer := loadBuffer raw, p := 0#16, window := windowAt (loadBuffer raw) 0 }

/-- ASM_NEXT_FRAME's effect from position `p`: `p + 8`, and the whole window anew where one stands there (R59). -/
def advanceFrame (p : Pos) (s : State) : State :=
  { s with
    p := p + 8#16
    window := if eosAt (p + 8#16) then s.window else windowAt s.buffer (p + 8#16).toNat }

/-- ASM_SLIDE's effect from position `p`: `p + 1`, and the window shifted by one word where a window stands there
(R60). -/
def slideWord (p : Pos) (s : State) : State :=
  { s with
    p := p + 1#16
    window :=
      if eosAt (p + 1#16) then s.window
      else shiftWindow s.window (tokenWord (bufferRead s.buffer ((p + 1#16).toNat + 7))) }

/-! ## Counters (44_statistics_counter_array.md) -/

/-- Bucket `k` changed by `f`; an index past the last bucket changes nothing (no operation uses one). -/
def updateBucket {w : Nat} (k : Chan) (f : Bucket w → Bucket w) (v : Channels w) : Channels w :=
  if h : k.toNat < numBuckets then v.set k.toNat (f v[k.toNat]) else v

/-- `alignedOk + 1` of a bucket. -/
def bumpAlignedOk {w : Nat} (b : Bucket w) : Bucket w := { b with alignedOk := b.alignedOk + 1#w }

/-- `alignedError + 1` of a bucket. -/
def bumpAlignedError {w : Nat} (b : Bucket w) : Bucket w := { b with alignedError := b.alignedError + 1#w }

/-- `notAlignedOk + 1` of a bucket. -/
def bumpNotAlignedOk {w : Nat} (b : Bucket w) : Bucket w := { b with notAlignedOk := b.notAlignedOk + 1#w }

/-- `notAlignedError + 1` of a bucket. -/
def bumpNotAlignedError {w : Nat} (b : Bucket w) : Bucket w := { b with notAlignedError := b.notAlignedError + 1#w }

/-- Every counter zero-extended from the per-file to the run width (R89). -/
def widenCounters (c : Counters fileCtrBits) : Counters runCtrBits where
  fillerFrames := c.fillerFrames.setWidth runCtrBits
  alignedOk := c.alignedOk.setWidth runCtrBits
  alignedError := c.alignedError.setWidth runCtrBits
  notAlignedOk := c.notAlignedOk.setWidth runCtrBits
  notAlignedError := c.notAlignedError.setWidth runCtrBits
  alignmentLossEvents := c.alignmentLossEvents.setWidth runCtrBits
  badChannelIdEvents := c.badChannelIdEvents.setWidth runCtrBits

/-- The counters of `a` and `b` added, one by one (R89). -/
def addCounters {w : Nat} (a b : Counters w) : Counters w where
  fillerFrames := a.fillerFrames + b.fillerFrames
  alignedOk := a.alignedOk + b.alignedOk
  alignedError := a.alignedError + b.alignedError
  notAlignedOk := a.notAlignedOk + b.notAlignedOk
  notAlignedError := a.notAlignedError + b.notAlignedError
  alignmentLossEvents := a.alignmentLossEvents + b.alignmentLossEvents
  badChannelIdEvents := a.badChannelIdEvents + b.badChannelIdEvents

/-- A bucket zero-extended from the per-file to the run width (R89). -/
def widenBucket (b : Bucket fileCtrBits) : Bucket runCtrBits where
  alignedOk := b.alignedOk.setWidth runCtrBits
  alignedError := b.alignedError.setWidth runCtrBits
  notAlignedOk := b.notAlignedOk.setWidth runCtrBits
  notAlignedError := b.notAlignedError.setWidth runCtrBits

/-- The counters of two buckets added, one by one (R89). -/
def addBucket {w : Nat} (a b : Bucket w) : Bucket w where
  alignedOk := a.alignedOk + b.alignedOk
  alignedError := a.alignedError + b.alignedError
  notAlignedOk := a.notAlignedOk + b.notAlignedOk
  notAlignedError := a.notAlignedError + b.notAlignedError

/-- `rchan[k].f + zext_64(fchan[k].f)` for every bucket and field (R89). -/
def mergeChannels (r : Channels runCtrBits) (f : Channels fileCtrBits) : Channels runCtrBits :=
  Vector.zipWith (fun a b => addBucket a (widenBucket b)) r f

/-! ## Output (45_host_interface.md R101) -/

/-- `emit`: one event at the end of the stream; an event is never changed or withdrawn once emitted. -/
def emit (e : Event) (s : State) : State := { s with out := s.out ++ [e] }

end Sys2Proof.Machine
end

