-- ==== Sys2Proof/Machine/Assembler.lean ====
section
/-!
DEFINITION. frame_assembler: ASM_LOAD, ASM_EOS, ASM_NEXT_FRAME and ASM_SLIDE as operations that run by themselves
(41_frame_assembler.md R57 to R60).
-/

namespace Sys2Proof.Machine

/-- ASM_LOAD: the buffer from a raw read, and the first window (R57). A read of more than BUF_WORDS words is refused
before it. -/
def execAsmLoad (raw : List Word) (s : State) : Result :=
  if raw.length ≤ bufWords then .next (loadRead raw s) else .refused .oversizeRead

/-- ASM_EOS: the end-of-stream test at `p` (R58). -/
def execAsmEos (p : Pos) (s : State) : Result := .next { s with result := .eos (eosAt p) }

/-- ASM_NEXT_FRAME: one whole frame on from `p` (R59). -/
def execAsmNextFrame (p : Pos) (s : State) : Result := .next (advanceFrame p s)

/-- ASM_SLIDE: one word on from `p` (R60). -/
def execAsmSlide (p : Pos) (s : State) : Result := .next (slideWord p s)

end Sys2Proof.Machine
end

