-- ==== Sys2Proof/Machine/Checksum.lean ====
section
/-!
DEFINITION. checksum_verifier: CK_UPDATE, CK_COMPUTE and CK_VERIFY as operations that run by themselves
(40_checksum_verifier.md R52 to R54). Each leaves its last accumulator value in `acc` and its result in `result`.
-/

namespace Sys2Proof.Machine

/-- CK_UPDATE: one byte folded into the accumulator by CRC_UPDATE (R52). -/
def execCkUpdate (b : Byte) (acc : Word) (s : State) : Result :=
  let value := Config.crcUpdate b acc
  .next { s with acc := value, result := .checksum value }

/-- CK_COMPUTE: the checksum of the frame's payload (R53). -/
def execCkCompute (f : Frame) (s : State) : Result :=
  let computed := checksumOf f
  .next { s with acc := computed, result := .checksum computed }

/-- CK_VERIFY: the computed checksum compared with the trailer (R54). -/
def execCkVerify (f : Frame) (s : State) : Result :=
  let computed := checksumOf f
  .next { s with acc := computed, result := .verify (crcOkOf f) computed }

end Sys2Proof.Machine
end

