-- ==== Sys2Proof/Machine/Decoder.lean ====
section
/-!
DEFINITION. frame_decoder: DEC_EXTRACT, DEC_CLASSIFY and DEC_ERROR_RECORD (43_frame_decoder.md R78 to R80), pure
functions whose value goes to `result` when they run by themselves.
-/

namespace Sys2Proof.Machine

/-- The fields of a DataError tag, from the decoded record and the computed checksum (R79). -/
def dataErrorFields (d : Decoded) (computed : Word) : DataErrorFields where
  channel := d.channel
  injectedErrorCount := d.injectedError
  runningErrorCounter := d.runningErrorCounter
  timestampField := d.timestamp
  expectedCode := d.expectedCode
  receivedCode := d.receivedCode
  errorPosition := d.errorPosition
  embeddedCrc := d.embeddedCrc
  computedCrc := computed

/-- DEC_CLASSIFY's tag (R79): error frames are DataError whatever the checksum; a clean frame is DataOK only with a
matching checksum and a valid channel, and else a Loss, whose cause is the checksum where that fails. -/
def classify (d : Decoded) (crcOk : Bool) (computed : Word) : FrameClass :=
  if d.errorFlag then .dataError (dataErrorFields d computed)
  else if crcOk && channelValid d.channel then .dataOk d.channel true
  else if !crcOk then .loss .crc d.channel
  else .loss .channel d.channel

/-- DEC_ERROR_RECORD's record, in the order of 30_encoding.md R48; the channel is the raw one (R80). -/
def errorRecordOf (d : Decoded) (computed : Word) : ErrorRecord where
  channel := d.channel
  injectedError := d.injectedError
  runningErrorCounter := d.runningErrorCounter
  checksumDelta := delta computed d.embeddedCrc
  timestampField := d.timestamp
  expectedCode := d.expectedCode
  receivedCode := d.receivedCode
  errorPosition := d.errorPosition
  embeddedCrc := d.embeddedCrc
  computedCrc := computed

/-- DEC_EXTRACT: the named fields of the frame under the LAYOUT (R78). -/
def execDecExtract (f : Frame) (s : State) : Result :=
  .next { s with result := .fields (extractFields s.config.layout f) }

/-- DEC_CLASSIFY (R79). -/
def execDecClassify (d : Decoded) (crcOk : Bool) (computed : Word) (s : State) : Result :=
  .next { s with result := .tag (classify d crcOk computed) }

/-- DEC_ERROR_RECORD (R80). -/
def execDecErrorRecord (d : Decoded) (computed : Word) (s : State) : Result :=
  .next { s with result := .record (errorRecordOf d computed) }

end Sys2Proof.Machine
end

