-- ==== Sys2Proof/Machine/Statistics.lean ====
section
/-!
DEFINITION. statistics_counter_array: the nine commands (44_statistics_counter_array.md R82 to R89, R92) and `stats`, the
command interface through which frame_sync_fsm issues them (30_encoding.md R46, R93).
-/

namespace Sys2Proof.Machine

/-! ## The counter updates -/

/-- `file.fillerFrames + 1` (R82). -/
def countFiller (s : State) : State :=
  { s with file := { s.file with fillerFrames := s.file.fillerFrames + 1#32 } }

/-- `file.alignedOk + 1` and `fchan[k].alignedOk + 1` (R83). -/
def countAlignedOk (k : Chan) (s : State) : State :=
  { s with
    file := { s.file with alignedOk := s.file.alignedOk + 1#32 }
    fchan := updateBucket k bumpAlignedOk s.fchan }

/-- `file.alignedError + 1` and `fchan[k].alignedError + 1` (R84). -/
def countAlignedError (k : Chan) (s : State) : State :=
  { s with
    file := { s.file with alignedError := s.file.alignedError + 1#32 }
    fchan := updateBucket k bumpAlignedError s.fchan }

/-- `file.notAlignedOk + 1` and `fchan[k].notAlignedOk + 1` (R85). -/
def countNotAlignedOk (k : Chan) (s : State) : State :=
  { s with
    file := { s.file with notAlignedOk := s.file.notAlignedOk + 1#32 }
    fchan := updateBucket k bumpNotAlignedOk s.fchan }

/-- `file.notAlignedError + 1` and `fchan[k].notAlignedError + 1` (R86). -/
def countNotAlignedError (k : Chan) (s : State) : State :=
  { s with
    file := { s.file with notAlignedError := s.file.notAlignedError + 1#32 }
    fchan := updateBucket k bumpNotAlignedError s.fchan }

/-- `file.alignmentLossEvents + 1` and `fchan[OVF_INDEX].alignedError + 1`; `file.alignedError` stays (R87). -/
def countAlignmentLoss (s : State) : State :=
  { s with
    file := { s.file with alignmentLossEvents := s.file.alignmentLossEvents + 1#32 }
    fchan := updateBucket ovfIndex bumpAlignedError s.fchan }

/-- `file.badChannelIdEvents + 1` (R88). -/
def countBadChannelId (s : State) : State :=
  { s with file := { s.file with badChannelIdEvents := s.file.badChannelIdEvents + 1#32 } }

/-- The snapshot FINALIZE_FILE emits (R89 to R91). -/
def fileSummary (s : State) : FileSummary where
  fileIndex := s.buffersProcessed
  counters := s.file
  isAllFiller := isAllFiller s.file
  totalFrames := totalFrames s.file
  channels := s.fchan

/-- The per-file counters added to the run totals, the buffer counted, the per-file counters cleared (R89). -/
def mergeFile (s : State) : State :=
  { s with
    run := addCounters s.run (widenCounters s.file)
    rchan := mergeChannels s.rchan s.fchan
    buffersProcessed := s.buffersProcessed + 1#64
    file := Counters.zero fileCtrBits
    fchan := Channels.zero fileCtrBits }

/-- Every counter 0 (R92). -/
def clearCounters (s : State) : State :=
  { s with
    file := Counters.zero fileCtrBits
    fchan := Channels.zero fileCtrBits
    run := Counters.zero runCtrBits
    rchan := Channels.zero runCtrBits
    buffersProcessed := 0#64 }

/-! ## The commands -/

/-- A command with a bucket index: 0..10 are legal, 11..15 fault (R93). -/
def withBucket (k : Chan) (s : State) : Result :=
  if k.toNat < numBuckets then .next s else .fault .badStatsCommand

/-- REC_FILLER (R82). -/
def execRecFiller (s : State) : Result := .next (countFiller s)

/-- REC_ALIGNED_OK (R83). -/
def execRecAlignedOk (k : Chan) (s : State) : Result := withBucket k (countAlignedOk k s)

/-- REC_ALIGNED_ERROR (R84). -/
def execRecAlignedError (k : Chan) (s : State) : Result := withBucket k (countAlignedError k s)

/-- REC_NOT_ALIGNED_OK (R85). -/
def execRecNotAlignedOk (k : Chan) (s : State) : Result := withBucket k (countNotAlignedOk k s)

/-- REC_NOT_ALIGNED_ERROR (R86). -/
def execRecNotAlignedError (k : Chan) (s : State) : Result := withBucket k (countNotAlignedError k s)

/-- REC_ALIGNMENT_LOSS (R87). -/
def execRecAlignmentLoss (s : State) : Result := .next (countAlignmentLoss s)

/-- REC_BAD_CHANNEL_ID: the raw channel id is context only, every value is legal, and no bucket changes (R88). -/
def execRecBadChannelId (_c : Chan) (s : State) : Result := .next (countBadChannelId s)

/-- FINALIZE_FILE: the snapshot is emitted, then added to the run totals, then the per-file counters are cleared
(R89). -/
def execFinalizeFile (s : State) : Result := .next (mergeFile (emit (.fileSummary (fileSummary s)) s))

/-- CLEAR_ALL (R92). -/
def execClearAll (s : State) : Result := .next (clearCounters s)

/-! ## The command interface -/

/-- `stats(OP, idx)`: one command to the counter array (00_scope.md R9, 30_encoding.md R46). A reserved op, or an idx
where the op takes none, faults (R93). -/
def stats (op idx : Chan) (s : State) : Result :=
  match decodeCmd (statsWord op idx) with
  | .ok .recFiller => execRecFiller s
  | .ok (.recAlignedOk k) => execRecAlignedOk k s
  | .ok (.recAlignedError k) => execRecAlignedError k s
  | .ok (.recNotAlignedOk k) => execRecNotAlignedOk k s
  | .ok (.recNotAlignedError k) => execRecNotAlignedError k s
  | .ok .recAlignmentLoss => execRecAlignmentLoss s
  | .ok (.recBadChannelId c) => execRecBadChannelId c s
  | .ok .finalizeFile => execFinalizeFile s
  | .ok .clearAll => execClearAll s
  | _ => .fault .badStatsCommand

end Sys2Proof.Machine
end

