-- ==== Sys2Proof/Machine/Fsm.lean ====
section
/-!
DEFINITION. frame_sync_fsm: the ten step outcomes and the sub-operation BAD_CHANNEL (42_frame_sync_fsm.md R64 to R74).
Each works on the state and its window; which one a step performs is the selector's choice (Machine/Fetch.lean).
-/

namespace Sys2Proof.Machine

/-- The op codes of the statistics commands a step issues (30_encoding.md R46). -/
def opFiller : Chan := 1#4
/-- REC_ALIGNED_OK. -/
def opAlignedOk : Chan := 2#4
/-- REC_ALIGNED_ERROR. -/
def opAlignedError : Chan := 3#4
/-- REC_NOT_ALIGNED_OK. -/
def opNotAlignedOk : Chan := 4#4
/-- REC_NOT_ALIGNED_ERROR. -/
def opNotAlignedError : Chan := 5#4
/-- REC_ALIGNMENT_LOSS. -/
def opAlignmentLoss : Chan := 6#4
/-- REC_BAD_CHANNEL_ID. -/
def opBadChannelId : Chan := 7#4
/-- FINALIZE_FILE. -/
def opFinalizeFile : Chan := 8#4
/-- CLEAR_ALL. -/
def opClearAll : Chan := 9#4

/-! ## Shared operations -/

/-- BAD_CHANNEL: the event is counted, then reported with the raw channel and the position; `crc_ok` is reported 0 for
an error frame (R64). -/
def reportBadChannel (channel : Chan) (flag crcOk : Bool) (s : State) : Result :=
  andThen (stats opBadChannelId channel s) fun s =>
    .next (emit (.badChannel ⟨channel, flag, if flag then false else crcOk, s.p⟩) s)

/-- BAD_CHANNEL where the window's decoded channel is invalid, and nothing where it is valid. -/
def reportIfInvalid (flag crcOk : Bool) (s : State) : Result :=
  if channelValid s.decoded.channel then .next s else reportBadChannel s.decoded.channel flag crcOk s

/-- The next window after an alignment loss, as LOSS_RESUME says (00_scope.md R5, R69). -/
def resumeAfterLoss (s : State) : State :=
  match s.config.lossResume with
  | .slide => slideWord s.p s
  | .skip => advanceFrame s.p s

/-- An alignment loss, the block's whole response to a desync (R69, R70, 60_exceptions.md R111): the loss is counted,
`aligned` becomes 0 and scanning resumes. No state is saved and no control is transferred. -/
def loseAlignment (s : State) : Result :=
  andThen (stats opAlignmentLoss 0#4 s) fun s => .next (resumeAfterLoss { s with alignment := .unaligned })

/-! ## End of stream -/

/-- EOS_FINALIZE: FINALIZE_FILE, then IDLE; `aligned` is kept (R65). -/
def execEosFinalize (s : State) : Result :=
  andThen (stats opFinalizeFile 0#4 s) fun s => .next { s with phase := .idle }

/-! ## ALIGNED operations -/

/-- A_FILLER (R66). -/
def execAFiller (s : State) : Result :=
  andThen (stats opFiller 0#4 s) fun s => .next (advanceFrame s.p s)

/-- A_DATA_OK (R67). -/
def execADataOk (s : State) : Result :=
  andThen (stats opAlignedOk s.decoded.channel s) fun s => .next (advanceFrame s.p s)

/-- A_DATA_ERROR: a bad channel first, then the count under the routed bucket, then the error record with the raw
channel and the computed checksum, then the next frame (R68). -/
def execADataError (s : State) : Result :=
  andThen (reportIfInvalid true false s) fun s =>
    andThen (stats opAlignedError (route s.decoded.channel) s) fun s =>
      .next (advanceFrame s.p (emit (.errorRecord (errorRecordOf s.decoded (checksumOf s.frame))) s))

/-- A_LOSS_CRC: a bad channel first, with `crc_ok` 0, then the loss (R69). -/
def execALossCrc (s : State) : Result := andThen (reportIfInvalid false false s) loseAlignment

/-- A_LOSS_CHANNEL: the bad channel, with `crc_ok` 1, then the loss (R70). -/
def execALossChannel (s : State) : Result :=
  andThen (reportBadChannel s.decoded.channel false true s) loseAlignment

/-! ## UNALIGNED operations -/

/-- U_SYNC: one filler, ALIGNED, the next frame (R71). -/
def execUSync (s : State) : Result :=
  andThen (stats opFiller 0#4 s) fun s => .next (advanceFrame s.p { s with alignment := .aligned })

/-- U_DR_OK: a dead-reckoning observation with tentative flag 0, under the clamped tentative channel (R72). -/
def execUDrOk (s : State) : Result :=
  andThen (stats opNotAlignedOk (clamp s.config (tentativeChannel s.frame)) s) fun s => .next (slideWord s.p s)

/-- U_DR_ERROR: a dead-reckoning observation with tentative flag 1 (R73). -/
def execUDrError (s : State) : Result :=
  andThen (stats opNotAlignedError (clamp s.config (tentativeChannel s.frame)) s) fun s => .next (slideWord s.p s)

/-- U_SKIP: nothing is recorded (R74). -/
def execUSkip (s : State) : Result := .next (slideWord s.p s)

/-! ## BAD_CHANNEL by itself -/

/-- BAD_CHANNEL (R64). -/
def execBadChannel (channel : Chan) (flag crcOk : Bool) (s : State) : Result := reportBadChannel channel flag crcOk s

end Sys2Proof.Machine
end

