-- ==== Sys2Proof/Machine/HostInterface.lean ====
section
/-!
DEFINITION. The three host commands (45_host_interface.md R97 to R99), the readout map (R100) and the instantiation of a
block with a configuration (60_exceptions.md R115, R116).
-/

namespace Sys2Proof.Machine

/-! ## Instantiation (R116) -/

/-- The LAYOUT fields as (least significant bit, width), in R41's order. -/
def layoutFields (l : Layout) : List (Nat × Nat) :=
  [(l.channel, 4), (l.timestamp, 27), (l.injectedError, 11), (l.expectedCode, 27), (l.receivedCode, 27),
   (l.errorPosition, 27), (l.runningErrorCounter, 44)]

/-- Two fields share no bit. -/
abbrev fieldsApart (a b : Nat × Nat) : Prop := a.1 + a.2 ≤ b.1 ∨ b.1 + b.2 ≤ a.1

/-- A LAYOUT is well formed: every LAYOUT field lies inside bits 254:32 and no two overlap (30_encoding.md R41). -/
def layoutWellFormed (l : Layout) : Bool :=
  (layoutFields l).all (fun f => decide (32 ≤ f.1 ∧ f.1 + f.2 ≤ 255)) && decide ((layoutFields l).Pairwise fieldsApart)

/-- A configuration is accepted: R116 (1) to (4). (5) and (6) hold of every value of the types. -/
def configAccepted (c : Config) : Bool :=
  c.syncPattern != 0#256 && layoutWellFormed c.layout && decide (c.drResidue < 8) && decide (c.drClamp ≤ oorIndex.toNat)

/-- A block built with a configuration, at power-up; a configuration that R116 does not accept is refused with BadConfig
and no block is built (R115). -/
def instantiate (c : Config) : Result :=
  if configAccepted c then .next { State.reset with config := c } else .refused .badConfig

/-! ## The commands -/

/-- HOST_RESET: CLEAR_ALL, UNALIGNED, `p` 0, IDLE, and no event (R97). It leaves `B`, `W` and `acc` unspecified
(10_state.md R24): they become free values of a fresh draw. -/
def execHostReset (s : State) : Result :=
  andThen (stats opClearAll 0#4 s) fun s =>
    .next { s with
      alignment := .unaligned
      p := 0#16
      phase := .idle
      buffer := ⟨.free s.freeDraws, []⟩
      window :=
        { w0 := Config.freeWindowWord s.freeDraws 0, w1 := Config.freeWindowWord s.freeDraws 1,
          w2 := Config.freeWindowWord s.freeDraws 2, w3 := Config.freeWindowWord s.freeDraws 3,
          w4 := Config.freeWindowWord s.freeDraws 4, w5 := Config.freeWindowWord s.freeDraws 5,
          w6 := Config.freeWindowWord s.freeDraws 6, w7 := Config.freeWindowWord s.freeDraws 7 }
      acc := Config.freeWord s.freeDraws
      freeDraws := s.freeDraws + 1 }

/-- HOST_RUN_BUFFER: an oversize read is refused before any state changes; else RUNNING and ASM_LOAD, after which the
block repeats STEP until EOS_FINALIZE (R98). The repetition is the machine's own `step`, one window each
(00_scope.md R10); the whole transaction is `runTransaction` in Machine/Transaction.lean. -/
def execHostRunBuffer (raw : List Word) (s : State) : Result :=
  if raw.length ≤ bufWords then .next (loadRead raw { s with phase := .running }) else .refused .oversizeRead

/-- The report of HOST_READ_RUN (R99). -/
def runSummary (s : State) : RunSummary where
  buffersProcessed := s.buffersProcessed
  counters := s.run
  totalFrames := totalFrames s.run
  alignment := s.alignment
  channels := s.rchan

/-- HOST_READ_RUN: the run totals are reported and nothing else changes (R99). -/
def execHostReadRun (s : State) : Result := .next (emit (.runSummary (runSummary s)) s)

/-! ## The readout map (R100) -/

/-- Field `f` of a bucket: 0 alignedOk, 1 alignedError, 2 notAlignedOk, 3 notAlignedError. -/
def bucketField {w : Nat} (b : Bucket w) (f : Nat) : Option (BitVec w) :=
  match f with
  | 0 => some b.alignedOk
  | 1 => some b.alignedError
  | 2 => some b.notAlignedOk
  | 3 => some b.notAlignedError
  | _ => none

/-- The field of EV_RUN_SUMMARY with readout index `i`, 0..53, each in 64 bits (R100). -/
def readout (r : RunSummary) (i : Nat) : Option (BitVec 64) :=
  match i with
  | 0 => some r.buffersProcessed
  | 1 => some r.counters.fillerFrames
  | 2 => some r.counters.alignedOk
  | 3 => some r.counters.alignedError
  | 4 => some r.counters.notAlignedOk
  | 5 => some r.counters.notAlignedError
  | 6 => some r.counters.alignmentLossEvents
  | 7 => some r.counters.badChannelIdEvents
  | 8 => some r.totalFrames
  | 9 => some ((bit (alignedBit r.alignment)).setWidth 64)
  | n + 10 => if h : n / 4 < numBuckets then bucketField r.channels[n / 4] (n % 4) else none

end Sys2Proof.Machine
end

