-- ==== Sys2Proof/Machine/Dispatch.lean ====
section
/-!
DEFINITION. The meaning of each operation: one arm per constructor of `Instr`, each one call.
-/

namespace Sys2Proof.Machine

def exec (i : Instr) (s : State) : Host.Outcome State Fault Refusal :=
  match i with
  -- checksum_verifier
  | .ckUpdate b acc => Sys2Proof.Machine.execCkUpdate b acc s
  | .ckCompute f => Sys2Proof.Machine.execCkCompute f s
  | .ckVerify f => Sys2Proof.Machine.execCkVerify f s
  -- frame_assembler
  | .asmLoad raw => Sys2Proof.Machine.execAsmLoad raw s
  | .asmEos p => Sys2Proof.Machine.execAsmEos p s
  | .asmNextFrame p => Sys2Proof.Machine.execAsmNextFrame p s
  | .asmSlide p => Sys2Proof.Machine.execAsmSlide p s
  -- frame_sync_fsm
  | .eosFinalize => Sys2Proof.Machine.execEosFinalize s
  | .aFiller => Sys2Proof.Machine.execAFiller s
  | .aDataError => Sys2Proof.Machine.execADataError s
  | .aDataOk => Sys2Proof.Machine.execADataOk s
  | .aLossCrc => Sys2Proof.Machine.execALossCrc s
  | .aLossChannel => Sys2Proof.Machine.execALossChannel s
  | .uSync => Sys2Proof.Machine.execUSync s
  | .uDrOk => Sys2Proof.Machine.execUDrOk s
  | .uDrError => Sys2Proof.Machine.execUDrError s
  | .uSkip => Sys2Proof.Machine.execUSkip s
  | .badChannel channel flag crcOk => Sys2Proof.Machine.execBadChannel channel flag crcOk s
  -- frame_decoder
  | .decExtract f => Sys2Proof.Machine.execDecExtract f s
  | .decClassify d crcOk computed => Sys2Proof.Machine.execDecClassify d crcOk computed s
  | .decErrorRecord d computed => Sys2Proof.Machine.execDecErrorRecord d computed s
  -- statistics_counter_array
  | .recFiller => Sys2Proof.Machine.execRecFiller s
  | .recAlignedOk k => Sys2Proof.Machine.execRecAlignedOk k s
  | .recAlignedError k => Sys2Proof.Machine.execRecAlignedError k s
  | .recNotAlignedOk k => Sys2Proof.Machine.execRecNotAlignedOk k s
  | .recNotAlignedError k => Sys2Proof.Machine.execRecNotAlignedError k s
  | .recAlignmentLoss => Sys2Proof.Machine.execRecAlignmentLoss s
  | .recBadChannelId c => Sys2Proof.Machine.execRecBadChannelId c s
  | .finalizeFile => Sys2Proof.Machine.execFinalizeFile s
  | .clearAll => Sys2Proof.Machine.execClearAll s
  -- host commands
  | .hostReset => Sys2Proof.Machine.execHostReset s
  | .hostRunBuffer raw => Sys2Proof.Machine.execHostRunBuffer raw s
  | .hostReadRun => Sys2Proof.Machine.execHostReadRun s

end Sys2Proof.Machine
end

