-- ==== Sys2Proof/Machine/Fetch.lean ====
section
/-!
DEFINITION. What the next step runs. The block fetches no program (20_memory.md R37): while RUNNING, a window selects its
own operation (42_frame_sync_fsm.md R62); while IDLE, the host's next command is performed (45_host_interface.md R96).
-/

namespace Sys2Proof.Machine

/-- What a step finds to do. -/
inductive Fetched where
  /-- Run this operation from this state. -/
  | run (i : Instr) (s : State)
  /-- IDLE with no command: the block does nothing (70_reset_and_hazards.md R126). -/
  | wait
  /-- The word presented faults. -/
  | fault (r : Fault)
  /-- The word presented is refused. -/
  | refused (r : Refusal)
deriving DecidableEq, Repr

/-- The operation the window at `p` selects (30_encoding.md R45, 42_frame_sync_fsm.md R62). -/
def selectedOp (s : State) : Instr := decodeSel (selector s)

/-- STEP's own evaluation before the operation: where it evaluates CK_VERIFY, CK_COMPUTE leaves its last value in `acc`
(40_checksum_verifier.md R55, 42_frame_sync_fsm.md R62). -/
def evaluateWindow (s : State) : State :=
  if !eosAt s.p && checksHere s then { s with acc := checksumOf s.frame } else s

/-- With no word to take: the window's own operation while RUNNING, nothing while IDLE. -/
def fetchWindow (s : State) : Fetched :=
  match s.phase with
  | .running => .run (selectedOp s) (evaluateWindow s)
  | .idle => .wait

/-- A word presented to the block: its operation, or the stop its rejection is (R49, R93). -/
def fetchWord (ow : OpWord) (s : State) : Fetched :=
  match decode ow with
  | .ok i => .run i s
  | .error .badStatsCommand => .fault .badStatsCommand
  | .error .reservedHostCommand => .refused .reservedHostCommand
  | .error .malformedOperation => .refused .malformedOperation

/-- What the next step runs. A host command is taken only while IDLE: a command in progress is performed to completion
first (45_host_interface.md R96). -/
def fetch (s : State) : Fetched :=
  match s.inbox with
  | [] => fetchWindow s
  | ow :: rest =>
    match ow.isHost, s.phase with
    | true, .running => fetchWindow s
    | true, .idle => fetchWord ow { s with inbox := rest }
    | false, _ => fetchWord ow { s with inbox := rest }

/-- A word placed where the very next step takes it: first in the inbox, and with the block IDLE if it is a host
command. -/
def placeWord (ow : OpWord) (s : State) : State :=
  { s with inbox := ow :: s.inbox, phase := if ow.isHost then .idle else s.phase }

end Sys2Proof.Machine
end

