-- ==== Sys2Proof/Machine/Step.lean ====
section
/-!
DEFINITION. One step of the machine: a window of a buffer (00_scope.md R10), or a command taken from the inbox.
-/

namespace Sys2Proof.Machine

/-- One step: what the fetch finds, run. -/
def step (s : State) : Host.Outcome State Fault Refusal :=
  match fetch s with
  | .run i s' => exec i s'
  | .wait => .next s
  | .fault r => .fault r
  | .refused r => .refused r

/-- The state with the operation of `nbits` bits of value `w` placed where the next step takes it. -/
def State.withFetchWord (s : State) (nbits w : Nat) : State :=
  match tableWord nbits w with
  | some ow => placeWord ow s
  | none => s

end Sys2Proof.Machine
end

