-- ==== Sys2Proof/Machine/Records.lean ====
section
/-!
DEFINITION. The output records as 30_encoding.md R48 encodes them, and the text the sinks write from them
(45_host_interface.md R101 to R105). The sinks are outside the block; their formats are given so that a persisted log can
be compared with the block's events.
-/

namespace Sys2Proof.Machine

/-! ## Kinds and fields (R48) -/

/-- The event's `kind` code. -/
def Event.kind : Event → Nat
  | .errorRecord _ => 1
  | .badChannel _ => 2
  | .fileSummary _ => 3
  | .runSummary _ => 4

/-- One field of a record: its width and its value. -/
structure Field where
  width : Nat
  value : Nat
deriving DecidableEq, Repr

/-- A value with its own width. -/
def fieldOf {n : Nat} (v : BitVec n) : Field := ⟨n, v.toNat⟩

/-- The four counters of every bucket, in order. -/
def channelFields {w : Nat} (v : Channels w) : List Field :=
  v.toList.flatMap fun b =>
    [fieldOf b.alignedOk, fieldOf b.alignedError, fieldOf b.notAlignedOk, fieldOf b.notAlignedError]

/-- The seven counters, in the order of FileStats. -/
def counterFields {w : Nat} (c : Counters w) : List Field :=
  [fieldOf c.fillerFrames, fieldOf c.alignedOk, fieldOf c.alignedError, fieldOf c.notAlignedOk,
   fieldOf c.notAlignedError, fieldOf c.alignmentLossEvents, fieldOf c.badChannelIdEvents]

/-- The fields of an event, in R48's order with R48's widths. -/
def eventFields : Event → List Field
  | .errorRecord r =>
    [fieldOf r.channel, fieldOf r.injectedError, fieldOf r.runningErrorCounter, fieldOf r.checksumDelta,
     fieldOf r.timestampField, fieldOf r.expectedCode, fieldOf r.receivedCode, fieldOf r.errorPosition,
     fieldOf r.embeddedCrc, fieldOf r.computedCrc]
  | .badChannel r => [fieldOf r.channel, fieldOf (bit r.errorFlag), fieldOf (bit r.crcOk), fieldOf r.position]
  | .fileSummary r =>
    [fieldOf r.fileIndex] ++ counterFields r.counters ++ [fieldOf (bit r.isAllFiller), fieldOf r.totalFrames] ++
      channelFields r.channels
  | .runSummary r =>
    [fieldOf r.buffersProcessed] ++ counterFields r.counters ++
      [fieldOf r.totalFrames, fieldOf (bit (alignedBit r.alignment))] ++ channelFields r.channels

/-! ## Destinations (R101) -/

/-- Where the host sends an event. -/
inductive Destination where
  /-- The aggregate record stream and the record stream of this raw channel (R102). -/
  | records (channel : Chan)
  /-- A warning diagnostic, whose text is left to the host (R103). -/
  | warning
  /-- The per-buffer summary sink (R104). -/
  | bufferSummary
  /-- The run summary sink (R105). -/
  | runSummary
deriving DecidableEq, Repr

/-- R101's routing table. -/
def destinationOf : Event → Destination
  | .errorRecord r => .records r.channel
  | .badChannel _ => .warning
  | .fileSummary _ => .bufferSummary
  | .runSummary _ => .runSummary

/-! ## Text (R102, R104, R105) -/

/-- Unsigned decimal, no leading zeros. -/
def decimal {n : Nat} (v : BitVec n) : String := Nat.repr v.toNat

/-- `:08x`: lowercase hexadecimal, zero-padded to at least 8 digits (R102). -/
def hex08 {n : Nat} (v : BitVec n) : String :=
  let digits := Nat.toDigits 16 v.toNat
  String.ofList (List.replicate (8 - digits.length) '0' ++ digits)

/-- Signed decimal of a two's-complement value: `-` before a negative value, no `+` (R102). -/
def signedDecimal {n : Nat} (v : BitVec n) : String := toString v.toInt

/-- Fields with one space between them and one newline at the end. -/
def textLine (fields : List String) : String := String.intercalate " " fields ++ "\n"

/-- The line of an ErrorRecord, after the sink's own capture time (R102). `computed_crc` has no column. -/
def errorRecordLine (time : String) (r : ErrorRecord) : String :=
  textLine [time, decimal r.channel, decimal r.injectedError, decimal r.runningErrorCounter,
    signedDecimal r.checksumDelta, decimal r.timestampField, hex08 r.expectedCode, hex08 r.receivedCode,
    hex08 r.errorPosition, decimal r.embeddedCrc]

/-- The error records of a stream of events, in order. -/
def errorRecords (events : List Event) : List ErrorRecord :=
  events.filterMap fun
    | .errorRecord r => some r
    | .badChannel _ => none
    | .fileSummary _ => none
    | .runSummary _ => none

/-- Each error record with its line; `times` are the capture times the sink adds, one a record (R102). -/
def recordLines (times : List String) (events : List Event) : List (Chan × String) :=
  List.zipWith (fun t r => (r.channel, errorRecordLine t r)) times (errorRecords events)

/-- The aggregate record stream: every record's line (R102). -/
def aggregateStream (times : List String) (events : List Event) : List String :=
  (recordLines times events).map fun l => l.2

/-- The record stream of one raw channel: that channel's lines (R102). -/
def channelStream (ch : Chan) (times : List String) (events : List Event) : List String :=
  ((recordLines times events).filter fun l => l.1 == ch).map fun l => l.2

/-- The channel block: one line a bucket, `k alignedOk alignedError notAlignedOk notAlignedError` (R104). -/
def channelBlock {w : Nat} (v : Channels w) : String :=
  String.join ((List.zipIdx v.toList).map fun bk =>
    textLine [Nat.repr bk.2, decimal bk.1.alignedOk, decimal bk.1.alignedError, decimal bk.1.notAlignedOk,
      decimal bk.1.notAlignedError])

/-- A summary line: its first column, the counters with notAlignedError before notAlignedOk, the total (R104;
90_conflicts.md C8). -/
def summaryLine {w : Nat} (first : BitVec 64) (c : Counters w) (total : BitVec w) : String :=
  textLine [decimal first, decimal c.fillerFrames, decimal c.alignedOk, decimal c.alignedError,
    decimal c.notAlignedError, decimal c.notAlignedOk, decimal c.alignmentLossEvents, decimal c.badChannelIdEvents,
    decimal total]

/-- What the per-buffer summary sink appends for one EV_FILE_SUMMARY (R104). -/
def fileSummaryText (r : FileSummary) : String :=
  summaryLine r.fileIndex r.counters r.totalFrames ++ channelBlock r.channels

/-- What the run summary sink writes for an EV_RUN_SUMMARY; `aligned` is not written (R105). -/
def runSummaryText (r : RunSummary) : String :=
  summaryLine r.buffersProcessed r.counters r.totalFrames ++ channelBlock r.channels

end Sys2Proof.Machine
end

