-- ==== Sys2Proof/Machine/Stimulus.lean ====
section
/-!
DEFINITION. The stimulus notation of 30_encoding.md R51: lines that expand to the data words of a raw read, and programs
of host commands. Frames are built with the default LAYOUT (R41).
-/

namespace Sys2Proof.Machine

/-- `crc=` of a CLEAN or ERROR line. -/
inductive StimCrc where
  | good
  | bad
  | value (w : Word)
deriving DecidableEq, Repr

/-- The fields of a CLEAN or ERROR line; those not given are 0. -/
structure StimFields where
  ch : Chan
  ts : BitVec 27 := 0#27
  inj : BitVec 11 := 0#11
  exp : BitVec 27 := 0#27
  rcv : BitVec 27 := 0#27
  pos : BitVec 27 := 0#27
  run : BitVec 44 := 0#44
deriving DecidableEq, Repr

/-- A line of the notation. CLEAN's crc is `good` and ERROR's is `bad` where the line gives none. -/
inductive StimLine where
  | word (w : Word)
  | zero (n : Nat)
  | frame (w0 w1 w2 w3 w4 w5 w6 w7 : Word)
  | sync
  | clean (fields : StimFields) (crc : StimCrc := .good)
  | error (fields : StimFields) (crc : StimCrc := .bad)
  | times (n : Nat) (line : StimLine)
deriving DecidableEq, Repr

/-- A frame with the default LAYOUT (R41): the reserved bits are 0. -/
def packFrame (flag : Bool) (d : StimFields) (crc : Word) : Frame :=
  bit flag ++ 0#3 ++ d.ch ++ d.ts ++ d.inj ++ d.exp ++ d.rcv ++ d.pos ++ d.run ++ 0#53 ++ crc

/-- The trailer of a line: `good` is CK_COMPUTE of the payload, `bad` is that xor 1 (R51). -/
def stimTrailer (flag : Bool) (d : StimFields) : StimCrc → Word
  | .good => checksumOf (packFrame flag d 0#32)
  | .bad => checksumOf (packFrame flag d 0#32) ^^^ 1#32
  | .value w => w

/-- The words a line expands to, for a block with this SYNC_PATTERN (R51). -/
def expandLine (sync : Frame) : StimLine → List Word
  | .word w => [w]
  | .zero n => List.replicate n 0#32
  | .frame w0 w1 w2 w3 w4 w5 w6 w7 => [w0, w1, w2, w3, w4, w5, w6, w7]
  | .sync => frameWordsOf sync
  | .clean d crc => frameWordsOf (packFrame false d (stimTrailer false d crc))
  | .error d crc => frameWordsOf (packFrame true d (stimTrailer true d crc))
  | .times n line => (List.replicate n (expandLine sync line)).flatten

/-- A command of a program: RESET, RUN with its lines, READ_RUN (R51). -/
inductive StimCommand where
  | reset
  | run (lines : List StimLine)
  | readRun
deriving DecidableEq, Repr

/-- The host command a program's command stands for (R47, R51). -/
def stimCommandWord (sync : Frame) : StimCommand → OpWord
  | .reset => .host2 0#2 []
  | .run lines => .host2 1#2 (lines.flatMap (expandLine sync))
  | .readRun => .host2 2#2 []

/-- The state with a program's commands waiting, for the block it is written for. -/
def withProgram (program : List StimCommand) (s : State) : State :=
  { s with inbox := program.map (stimCommandWord s.config.syncPattern) }

end Sys2Proof.Machine
end

