-- ==== Sys2Proof/Machine/Conditions.lean ====
section
/-!
DEFINITION. The conditions of 60_exceptions.md R109 and which of them a step raises, in order (R110). No state element
holds one: each is handled by the outcome of the step that meets it (R108, R111).
-/

namespace Sys2Proof.Machine

/-- The six conditions of R109. The last two lie outside the block (R113). -/
inductive Condition where
  | desyncCrc
  | desyncChannel
  | badChannelId
  | syncNotFound
  | transportFailure
  | malformedLogLine
deriving DecidableEq, Repr

/-- R109's code of a condition. -/
def conditionCode : Condition → Nat
  | .desyncCrc => 1
  | .desyncChannel => 2
  | .badChannelId => 3
  | .syncNotFound => 4
  | .transportFailure => 5
  | .malformedLogLine => 6

/-- The conditions a step outcome raises on a window whose decoded channel is valid or not, the bad channel first
(R109, R110). -/
def outcomeConditions (op : Instr) (chValid : Bool) : List Condition :=
  match op with
  | .aLossCrc => if chValid then [.desyncCrc] else [.badChannelId, .desyncCrc]
  | .aLossChannel => [.badChannelId, .desyncChannel]
  | .aDataError => if chValid then [] else [.badChannelId]
  | .uDrOk => [.syncNotFound]
  | .uDrError => [.syncNotFound]
  | .uSkip => [.syncNotFound]
  | .ckUpdate _ _ => []
  | .ckCompute _ => []
  | .ckVerify _ => []
  | .asmLoad _ => []
  | .asmEos _ => []
  | .asmNextFrame _ => []
  | .asmSlide _ => []
  | .eosFinalize => []
  | .aFiller => []
  | .aDataOk => []
  | .uSync => []
  | .badChannel _ _ _ => []
  | .decExtract _ => []
  | .decClassify _ _ _ => []
  | .decErrorRecord _ _ => []
  | .recFiller => []
  | .recAlignedOk _ => []
  | .recAlignedError _ => []
  | .recNotAlignedOk _ => []
  | .recNotAlignedError _ => []
  | .recAlignmentLoss => []
  | .recBadChannelId _ => []
  | .finalizeFile => []
  | .clearAll => []
  | .hostReset => []
  | .hostRunBuffer _ => []
  | .hostReadRun => []

/-- The conditions the window at the state's position raises. -/
def windowConditions (s : State) : List Condition :=
  outcomeConditions (selectedOp s) (channelValid s.decoded.channel)

end Sys2Proof.Machine
end

