-- ==== Sys2Proof/Machine/Transaction.lean ====
section
/-!
DEFINITION. A host command as the transaction the host sees (45_host_interface.md R96, R98; 60_exceptions.md R115), over
the same single steps as `step`.
-/

namespace Sys2Proof.Machine

/-- STEP of 42_frame_sync_fsm.md R62: the window at `p` evaluated, and the operation it selects performed. -/
def windowStep (s : State) : Result := exec (selectedOp s) (evaluateWindow s)

/-- `while s.phase = RUNNING: STEP(s)`, at most the given number of times (R98). -/
def drain : Nat → State → Result
  | 0, s => .next s
  | n + 1, s =>
    match s.phase with
    | .idle => .next s
    | .running => andThen (windowStep s) (drain n)

/-- The most steps one buffer takes: BUF_WORDS - 7 windows and EOS_FINALIZE (41_frame_assembler.md R61,
70_reset_and_hazards.md R136). -/
def maxSteps : Nat := bufWords - 7 + 1

/-- HOST_RUN_BUFFER as one transaction (R98). -/
def runTransaction (raw : List Word) (s : State) : Result :=
  andThen (exec (.hostRunBuffer raw) s) (drain maxSteps)

/-- A host command as one transaction (R96): HOST_RUN_BUFFER drains its buffer, the others take no step (R136). -/
def hostTransaction (ow : OpWord) (s : State) : Result :=
  match fetchWord ow s with
  | .run (.hostRunBuffer raw) s' => runTransaction raw s'
  | .run i s' => exec i s'
  | .wait => .next s
  | .fault r => .fault r
  | .refused r => .refused r

/-- The commands of a host, in order. A refused command changes no state and emits no event, and the host goes on with its
next one (R115); a fault ends the session (R114). -/
def hostSession : List OpWord → State → Result
  | [], s => .next s
  | ow :: rest, s =>
    match hostTransaction ow s with
    | .next t => hostSession rest t
    | .refused _ => hostSession rest s
    | .fault r => .fault r

end Sys2Proof.Machine
end

