-- ==== Sys2Proof/Safety.lean ====
section
/-!
DEFINITION. What the claims speak of: a run as the spec has it (only host commands are presented, the configuration is
accepted), the faithfulness of the window and of the buffer, and the counter invariants of 44_statistics_counter_array.md
R94 and R95.
-/

namespace Sys2Proof.Machine

/-! ## A run as the spec has it -/

/-- Only host commands wait to be presented (60_exceptions.md R119: the host reaches the block in no other way). -/
def HostOnly (s : State) : Prop := ∀ ow ∈ s.inbox, ow.isHost = true

/-- Only host commands are presented, to a block whose configuration R116 accepts. -/
structure SpecRun (s : State) : Prop where
  hostOnly : HostOnly s
  accepted : configAccepted s.config = true

/-! ## Window and buffer -/

/-- `W[j]` holds `B[p + j].WORD` wherever a whole window stands at `p` (10_state.md R16). -/
def WindowFaithful (s : State) : Prop :=
  eosAt s.p = false → ∀ j, j < frameWords → windowWord s.window j = tokenWord (bufferRead s.buffer (s.p.toNat + j))

/-- While a buffer is drained, the position is in it and the window is faithful. -/
structure WindowInv (s : State) : Prop where
  hostOnly : HostOnly s
  position : s.phase = .running → s.p.toNat ≤ bufWords
  faithful : s.phase = .running → WindowFaithful s

/-- The buffer is in its canonical form, and while it is drained the element at BUF_WORDS is its only sentinel
(20_memory.md R26). -/
structure BufferInv (s : State) : Prop where
  canonical : s.buffer.wf = true
  sentinel : s.phase = .running → ∀ i, i ≤ bufWords → tokenIsSentinel (bufferRead s.buffer i) = decide (i = bufWords)

/-! ## Counters -/

/-- The exact sum of one field over the buckets. -/
def bucketSum {w : Nat} (f : Bucket w → BitVec w) (v : Channels w) : Nat := (v.toList.map fun b => (f b).toNat).sum

/-- The sum of one field over the buckets, at the counters' width. -/
def bucketSumMod {w : Nat} (f : Bucket w → BitVec w) (v : Channels w) : BitVec w := (v.toList.map f).sum

/-- Every classification a buffer's counters hold, counted exactly (the terms of TOTAL_FRAMES, R91). -/
def classified {w : Nat} (c : Counters w) : Nat :=
  c.fillerFrames.toNat + c.alignedOk.toNat + c.alignedError.toNat + c.notAlignedOk.toNat + c.notAlignedError.toNat +
    c.alignmentLossEvents.toNat

/-- R95 (1) to (5) of the per-file counters, exactly: bucket 10 is never reached (90_conflicts.md C9), and bucket 9 by a
dead-reckoning count where DR_CLAMP = 9 only. -/
structure FileSums (s : State) : Prop where
  alignedOk : bucketSum Bucket.alignedOk s.fchan = s.file.alignedOk.toNat
  alignedError :
    bucketSum Bucket.alignedError s.fchan = s.file.alignedError.toNat + s.file.alignmentLossEvents.toNat
  notAlignedOk : bucketSum Bucket.notAlignedOk s.fchan = s.file.notAlignedOk.toNat
  notAlignedError : bucketSum Bucket.notAlignedError s.fchan = s.file.notAlignedError.toNat
  overflowOk : s.fchan[9].alignedOk = 0#32
  overflowNotAligned :
    s.config.drClamp ≠ 9 → s.fchan[9].notAlignedOk = 0#32 ∧ s.fchan[9].notAlignedError = 0#32
  outOfRange : s.fchan[10] = Bucket.zero fileCtrBits
  badChannel :
    s.file.badChannelIdEvents.toNat ≤ s.file.alignedError.toNat + s.file.alignmentLossEvents.toNat

/-- The sums of R95 (1) to (3) for the run accumulator, at its width, and bucket 10, which stays 0 there too
(30_encoding.md R49). -/
structure RunSums (s : State) : Prop where
  alignedOk : bucketSumMod Bucket.alignedOk s.rchan = s.run.alignedOk
  alignedError : bucketSumMod Bucket.alignedError s.rchan = s.run.alignedError + s.run.alignmentLossEvents
  notAlignedOk : bucketSumMod Bucket.notAlignedOk s.rchan = s.run.notAlignedOk
  notAlignedError : bucketSumMod Bucket.notAlignedError s.rchan = s.run.notAlignedError
  outOfRange : s.rchan[10] = Bucket.zero runCtrBits

/-- The counter invariant: between buffers the per-file counters are 0 (70_reset_and_hazards.md R127), while one is
drained its steps have classified at most one frame per position (R94), and the sums of R95 hold. -/
structure CounterInv (s : State) : Prop where
  spec : SpecRun s
  cleared : s.phase = .idle → s.file = Counters.zero fileCtrBits ∧ s.fchan = Channels.zero fileCtrBits
  position : s.phase = .running → s.p.toNat ≤ bufWords
  bounded : s.phase = .running → classified s.file ≤ s.p.toNat
  fileSums : FileSums s
  runSums : RunSums s

/-! ## Events -/

/-- An event a window other than the last of its buffer may emit (45_host_interface.md R101). -/
def isWindowEvent : Event → Bool
  | .errorRecord _ => true
  | .badChannel _ => true
  | .fileSummary _ => false
  | .runSummary _ => false

end Sys2Proof.Machine
end

