-- ==== Sys2Proof/Certificates/Slice0/Obligations.lean ====
section
/-!
DEFINITION. The statements for the provers. Each docstring names the rule of spec/ it formalises. Where a statement
speaks of `result` (assumption 2), of the value left in `acc` (assumption 3) or of `inbox` (assumption 1), it speaks of a
convention of the model and its basis is derived.
-/

open Sys2Proof Sys2Proof.Machine

/-! ## checksum_verifier -/

/-- R52, R53, R54: CK_UPDATE answers CRC_UPDATE of the byte and the accumulator; CK_COMPUTE folds CRC_UPDATE over the 28
bytes `F[255 - 8k : 248 - 8k]`, byte 0 first, from 0xFFFFFFFF, with no final transformation; CK_VERIFY compares that value
with `F[31:0]` in all 32 bits and yields it. Each changes nothing but `acc` and `result`. (That the answer stands in
`result` is the model's choice, assumption 2; what `acc` holds afterwards is left open here, assumption 3.) -/
def Obligations.ChecksumOperationsAnswer : Prop :=
  (∀ (b : Byte) (acc : Word) (s : State), ∃ a,
    exec (.ckUpdate b acc) s = .next { s with acc := a, result := .checksum (Config.crcUpdate b acc) }) ∧
  ∀ (f : Frame) (s : State),
    let computed :=
      (List.range 28).foldl (fun acc k => Config.crcUpdate (f.extractLsb' (248 - 8 * k) 8) acc) 0xFFFFFFFF#32
    (∃ a, exec (.ckCompute f) s = .next { s with acc := a, result := .checksum computed }) ∧
    (∃ a, exec (.ckVerify f) s = .next { s with
      acc := a
      result := .verify (decide (computed = f.extractLsb' 0 32)) computed })

/-- R56 (1) to (4): CK_COMPUTE has no hidden state, depends on `F[255:32]` only, splits over concatenation, and a
trailer of `CK_COMPUTE(F) xor 1` never verifies. (Clauses 1 and 4 read the answer in `result`, the model's choice,
assumption 2.) -/
def Obligations.ChecksumLaws : Prop :=
  (∀ (f : Frame) (s s' : State), ∃ t t', exec (.ckCompute f) s = .next t ∧ exec (.ckCompute f) s' = .next t' ∧
    t.result = t'.result) ∧
  (∀ f g : Frame, f.extractLsb' 32 224 = g.extractLsb' 32 224 → checksumOf f = checksumOf g) ∧
  (∀ (seed : Word) (xs ys : List Byte),
    foldBytes Config.crcUpdate seed (xs ++ ys) =
      foldBytes Config.crcUpdate (foldBytes Config.crcUpdate seed xs) ys) ∧
  (∀ (f : Frame) (s : State), ∃ t,
    exec (.ckVerify (f.extractLsb' 32 224 ++ (checksumOf f ^^^ 1#32))) s = .next t ∧
      t.result = .verify false (checksumOf f))

/-- R55: a window step evaluates CK_VERIFY just where the block is ALIGNED and the window is not SYNC_PATTERN: there
`acc` is the checksum of the frame, and anywhere else `acc` stays. (That `acc` keeps the last value is the model's
choice, assumption 3.) -/
def Obligations.ChecksumEvaluatedInAlignedNonSyncSteps : Prop :=
  ∀ s t : State, HostOnly s → s.phase = .running → eosAt s.p = false → step s = .next t →
    t.acc =
      if s.alignment = .aligned ∧ s.frame ≠ s.config.syncPattern then checksumOf s.frame else s.acc

/-! ## frame_assembler -/

/-- R57: ASM_LOAD puts the raw words at 0..n-1, zero-words up to BUF_WORDS - 1 and the one sentinel at BUF_WORDS, sets
`p` to 0, loads the first window, and changes nothing else; a larger read is refused. (R57 puts the refusal before
ASM_LOAD; that ASM_LOAD by itself refuses such a read is a DESIGN CHOICE, assumption 13.) -/
def Obligations.AsmLoadBuildsBuffer : Prop :=
  ∀ (raw : List Word) (s : State),
    (raw.length ≤ 50000 → ∃ t, exec (.asmLoad raw) s = .next t ∧
      (∀ i, i < raw.length → bufferRead t.buffer i = 0#1 ++ raw.getD i 0#32) ∧
      (∀ i, raw.length ≤ i → i < 50000 → bufferRead t.buffer i = 0#1 ++ 0#32) ∧
      bufferRead t.buffer 50000 = 1#1 ++ 0#32 ∧
      (∀ j, j < 8 → windowWord t.window j = raw.getD j 0#32) ∧
      t = { s with buffer := t.buffer, window := t.window, p := 0#16 }) ∧
    (50000 < raw.length → exec (.asmLoad raw) s = .refused .oversizeRead)

/-- R58: ASM_EOS answers `p + 8 > BUF_WORDS` and changes no other state. (That the answer stands in `result` is the
model's choice, assumption 2.) -/
def Obligations.AsmEosTestsPosition : Prop :=
  ∀ (p : Pos) (s : State),
    exec (.asmEos p) s = .next { s with result := .eos (decide (p.toNat + 8 > 50000)) }

/-- R59: ASM_NEXT_FRAME sets `p <- p + 8` and loads `W[j] <- B[p + j].WORD` where the new window does not reach the
sentinel; else the window stays. (At positions above 50000, which no run reaches, the sum is modulo 2^16: DEDUCED,
assumption 9.) -/
def Obligations.AsmNextFrameAdvances : Prop :=
  ∀ (p : Pos) (s : State), ∃ w,
    exec (.asmNextFrame p) s = .next { s with p := p + 8#16, window := w } ∧
    ((p + 8#16).toNat + 8 ≤ 50000 →
      ∀ j, j < 8 → windowWord w j = tokenWord (bufferRead s.buffer ((p + 8#16).toNat + j))) ∧
    (50000 < (p + 8#16).toNat + 8 → w = s.window)

/-- R60: ASM_SLIDE sets `p <- p + 1`, and where the new window does not reach the sentinel `W[0..6] <- W[1..7]` and
`W[7] <- B[p + 7].WORD`; else the window stays. (At positions above 50000, which no run reaches, the sum is modulo
2^16: DEDUCED, assumption 9.) -/
def Obligations.AsmSlideAdvances : Prop :=
  ∀ (p : Pos) (s : State), ∃ w,
    exec (.asmSlide p) s = .next { s with p := p + 1#16, window := w } ∧
    ((p + 1#16).toNat + 8 ≤ 50000 →
      (∀ j, j < 7 → windowWord w j = windowWord s.window (j + 1)) ∧
      windowWord w 7 = tokenWord (bufferRead s.buffer ((p + 1#16).toNat + 7))) ∧
    (50000 < (p + 1#16).toNat + 8 → w = s.window)

/-- R27, R28: the frame is the window's eight words, the leading word most significant: `F[255 - 32j : 224 - 32j] = W[j]`;
payload byte `k` is `F[255 - 8k : 248 - 8k]`, so within a word the bytes are taken most significant first, and the last
word is not part of the payload. -/
def Obligations.FrameAndPayloadOrder : Prop :=
  ∀ v : Window,
    (∀ j, j < 8 → (frameOfWindow v).extractLsb' (224 - 32 * j) 32 = windowWord v j) ∧
    payloadBytes (frameOfWindow v) =
      (List.range 28).map (fun k => (frameOfWindow v).extractLsb' (248 - 8 * k) 8) ∧
    ∀ k, k < 28 →
      (payloadBytes (frameOfWindow v)).getD k 0#8 = (windowWord v (k / 4)).extractLsb' (24 - 8 * (k % 4)) 8

/-! ## frame_sync_fsm: the outcomes -/

/-- R65: EOS_FINALIZE, in either state, is FINALIZE_FILE and then IDLE; nothing else changes, `aligned` among it. Its
selector is mask 0x40, match 0x40. -/
def Obligations.EosFinalizeFinalizesAndIdles : Prop :=
  (∀ sel : BitVec 7, decodeSel sel = .eosFinalize ↔ sel &&& 0x40#7 = 0x40#7) ∧
  ∀ s : State, ∃ u, exec .finalizeFile s = .next u ∧ u.alignment = s.alignment ∧
    exec .eosFinalize s = .next { u with phase := .idle }

/-- R66, R71: A_FILLER is REC_FILLER and then ASM_NEXT_FRAME, and `aligned` stays; U_SYNC is REC_FILLER, then
`aligned <- 1`, then ASM_NEXT_FRAME. Neither emits an event. With their selector rows. -/
def Obligations.SyncMatchesCountFillerAndAdvance : Prop :=
  (∀ sel : BitVec 7, (decodeSel sel = .aFiller ↔ sel &&& 0x70#7 = 0x30#7) ∧
    (decodeSel sel = .uSync ↔ sel &&& 0x70#7 = 0x10#7)) ∧
  ∀ s : State,
    (∃ u t, exec .recFiller s = .next u ∧ exec (.asmNextFrame s.p) u = .next t ∧
      t.alignment = s.alignment ∧ t.out = s.out ∧ exec .aFiller s = .next t) ∧
    (∃ u t, exec .recFiller s = .next u ∧ exec (.asmNextFrame s.p) { u with alignment := .aligned } = .next t ∧
      t.alignment = .aligned ∧ t.out = s.out ∧ exec .uSync s = .next t)

/-- R67: A_DATA_OK, on a window whose decoded channel is valid, is REC_ALIGNED_OK of that channel and then
ASM_NEXT_FRAME; `aligned` stays and no event is emitted. With its selector row. -/
def Obligations.ADataOkCountsItsChannel : Prop :=
  (∀ sel : BitVec 7, decodeSel sel = .aDataOk ↔ sel &&& 0x7E#7 = 0x26#7) ∧
  ∀ s : State, (s.frame.extractLsb' s.config.layout.channel 4).toNat < 9 →
    ∃ u t, exec (.recAlignedOk (s.frame.extractLsb' s.config.layout.channel 4)) s = .next u ∧
      exec (.asmNextFrame s.p) u = .next t ∧ t.alignment = s.alignment ∧ t.out = s.out ∧
      exec .aDataOk s = .next t

/-- R68: A_DATA_ERROR is BAD_CHANNEL where the channel is invalid, then REC_ALIGNED_ERROR of the routed channel, then the
error record with the raw channel and the computed checksum, then ASM_NEXT_FRAME; `aligned` stays. With its selector row. -/
def Obligations.ADataErrorCountsAndReports : Prop :=
  (∀ sel : BitVec 7, decodeSel sel = .aDataError ↔ sel &&& 0x78#7 = 0x28#7) ∧
  ∀ s : State, ∃ u v t,
    (if s.decoded.channel.toNat < 9 then Host.Outcome.next s else exec (.badChannel s.decoded.channel true false) s) =
      .next u ∧
    exec (.recAlignedError (if s.decoded.channel.toNat < 9 then s.decoded.channel else 9#4)) u = .next v ∧
    exec (.asmNextFrame s.p)
      { v with out := v.out ++ [.errorRecord (errorRecordOf s.decoded (checksumOf s.frame))] } = .next t ∧
    t.alignment = s.alignment ∧
    exec .aDataError s = .next t

/-- R69, R70: A_LOSS_CRC is BAD_CHANNEL with `crc_ok` 0 where the channel is invalid, and A_LOSS_CHANNEL is BAD_CHANNEL
with `crc_ok` 1; then both are REC_ALIGNMENT_LOSS, then `aligned <- 0`, then ASM_SLIDE or ASM_NEXT_FRAME as LOSS_RESUME
says. With their selector rows. -/
def Obligations.LossOutcomesLeaveAlignment : Prop :=
  (∀ sel : BitVec 7, (decodeSel sel = .aLossCrc ↔ sel &&& 0x7C#7 = 0x20#7) ∧
    (decodeSel sel = .aLossChannel ↔ sel &&& 0x7E#7 = 0x24#7)) ∧
  ∀ s : State,
    (∃ u v t,
      (if s.decoded.channel.toNat < 9 then Host.Outcome.next s
        else exec (.badChannel s.decoded.channel false false) s) = .next u ∧
      exec .recAlignmentLoss u = .next v ∧
      (s.config.lossResume = .slide → exec (.asmSlide s.p) { v with alignment := .unaligned } = .next t) ∧
      (s.config.lossResume = .skip → exec (.asmNextFrame s.p) { v with alignment := .unaligned } = .next t) ∧
      t.alignment = .unaligned ∧ exec .aLossCrc s = .next t) ∧
    (∃ u v t,
      exec (.badChannel s.decoded.channel false true) s = .next u ∧
      exec .recAlignmentLoss u = .next v ∧
      (s.config.lossResume = .slide → exec (.asmSlide s.p) { v with alignment := .unaligned } = .next t) ∧
      (s.config.lossResume = .skip → exec (.asmNextFrame s.p) { v with alignment := .unaligned } = .next t) ∧
      t.alignment = .unaligned ∧ exec .aLossChannel s = .next t)

/-- R72, R73 with R42, R44: U_DR_OK and U_DR_ERROR record one observation under the tentative channel `F[251:248]`, or
under DR_CLAMP where that is no valid channel, and slide by one word; no event, `aligned` stays. The hypothesis is
R116 (4). With their selector rows. (Under DR_CLAMP = 10 the bucket is left open among 0..8, since bucket 10 is never
incremented: DEDUCED, assumption 11.) -/
def Obligations.DeadReckoningRecordsClampedChannel : Prop :=
  (∀ sel : BitVec 7, (decodeSel sel = .uDrOk ↔ sel &&& 0x79#7 = 0x01#7) ∧
    (decodeSel sel = .uDrError ↔ sel &&& 0x79#7 = 0x09#7)) ∧
  ∀ s : State, s.config.drClamp ≤ 10 →
    let tch : Chan := s.frame.extractLsb' 248 4
    ∃ k : Chan, (tch.toNat < 9 → k = tch) ∧ (9 ≤ tch.toNat → s.config.drClamp ≠ 10 → k.toNat = s.config.drClamp) ∧
    (9 ≤ tch.toNat → s.config.drClamp = 10 → k.toNat < 9) ∧
    (∃ u t, exec (.recNotAlignedOk k) s = .next u ∧ exec (.asmSlide s.p) u = .next t ∧
      t.alignment = s.alignment ∧ t.out = s.out ∧ exec .uDrOk s = .next t) ∧
    (∃ u t, exec (.recNotAlignedError k) s = .next u ∧ exec (.asmSlide s.p) u = .next t ∧
      t.alignment = s.alignment ∧ t.out = s.out ∧ exec .uDrError s = .next t)

/-- R74: U_SKIP is ASM_SLIDE and nothing else; no counter changes. With its selector row. (At positions above 50000,
which no run reaches, the sum is modulo 2^16: DEDUCED, assumption 9.) -/
def Obligations.USkipOnlySlides : Prop :=
  (∀ sel : BitVec 7, decodeSel sel = .uSkip ↔ sel &&& 0x71#7 = 0x00#7) ∧
  ∀ s : State, ∃ w t, exec (.asmSlide s.p) s = .next t ∧ exec .uSkip s = .next t ∧
    t = { s with p := s.p + 1#16, window := w }

/-- R64: BAD_CHANNEL counts the event and reports the raw channel, the flag, `crc_ok` where the flag is 0 (else 0) and
`p`; and a window step performs it just where the block is ALIGNED, the window is not SYNC_PATTERN and the decoded channel
is 9..15. -/
def Obligations.BadChannelReportsInvalidAlignedChannels : Prop :=
  (∀ (c : Chan) (flag crcOk : Bool) (s : State),
    exec (.badChannel c flag crcOk) s = .next { s with
      file := { s.file with badChannelIdEvents := s.file.badChannelIdEvents + 1#32 }
      out := s.out ++ [.badChannel ⟨c, flag, !flag && crcOk, s.p⟩] }) ∧
  (∀ s t : State, HostOnly s → s.phase = .running → eosAt s.p = false → step s = .next t →
    (t.out.drop s.out.length).filter (fun e => e.kind == 2) =
      if s.alignment = .aligned ∧ s.frame ≠ s.config.syncPattern ∧ 9 ≤ s.decoded.channel.toNat then
        [.badChannel ⟨s.decoded.channel, s.frame.getLsbD 255, !s.frame.getLsbD 255 && crcOkOf s.frame, s.p⟩]
      else [])

/-! ## frame_sync_fsm: the step -/

/-- 00_scope.md R10, 42_frame_sync_fsm.md R62, 45_host_interface.md R96: a word that is taken is run as the operation
it decodes to, from the state without it; a host word is taken only while IDLE. While RUNNING with only host commands
waiting, the window's own operation is run, from the state in which CK_VERIFY has been evaluated where STEP evaluates
it. While IDLE with nothing waiting, nothing happens. (`inbox` is the model's own, assumption 1.) (That `acc` keeps
the value is a DESIGN CHOICE, assumption 3; that the idle step answers the same state is DEDUCED, assumption 16.) -/
def Obligations.StepRunsDecodedOperation : Prop :=
  (∀ (s : State) (ow : OpWord) (rest : List OpWord) (i : Instr), s.inbox = ow :: rest → decode ow = .ok i →
    (ow.isHost = true → s.phase = .idle) → step s = exec i { s with inbox := rest }) ∧
  (∀ s : State, HostOnly s → s.phase = .running →
    step s = exec (decodeSel (selector s))
      { s with
        acc :=
          if eosAt s.p = false ∧ s.alignment = .aligned ∧ s.frame ≠ s.config.syncPattern then checksumOf s.frame
          else s.acc }) ∧
  (∀ s : State, s.inbox = [] → s.phase = .idle → step s = .next s)

/-- R45: the bits of the selector, and its ten rows complete and disjoint: every one of the 128 values matches exactly
one row, whose operation is the one selected. -/
def Obligations.SelectorBitsAndRows : Prop :=
  (∀ s : State, (selector s).getLsbD 6 = decide (s.p.toNat + 8 > 50000)) ∧
  (∀ s : State, s.p.toNat + 8 ≤ 50000 →
    (selector s).getLsbD 5 = decide (s.alignment = .aligned) ∧
    (selector s).getLsbD 4 = decide (s.frame = s.config.syncPattern) ∧
    (selector s).getLsbD 3 = s.frame.getLsbD 255 ∧
    (s.alignment = .aligned → s.frame ≠ s.config.syncPattern →
      (selector s).getLsbD 2 = crcOkOf s.frame ∧
      (selector s).getLsbD 1 = decide (s.decoded.channel.toNat < 9)) ∧
    (s.alignment = .unaligned → s.frame ≠ s.config.syncPattern →
      (selector s).getLsbD 0 = decide (s.p.toNat % 8 = s.config.drResidue))) ∧
  (∀ sel : BitVec 7, ∃ r ∈ selRows, sel &&& r.mask = r.value ∧ decodeSel sel = r.op ∧
    ∀ r' ∈ selRows, sel &&& r'.mask = r'.value → r' = r) ∧
  (∀ sel : BitVec 7,
    (decodeSel sel = .eosFinalize ↔ sel &&& 0x40#7 = 0x40#7) ∧ (decodeSel sel = .aFiller ↔ sel &&& 0x70#7 = 0x30#7) ∧
    (decodeSel sel = .aDataError ↔ sel &&& 0x78#7 = 0x28#7) ∧ (decodeSel sel = .aDataOk ↔ sel &&& 0x7E#7 = 0x26#7) ∧
    (decodeSel sel = .aLossCrc ↔ sel &&& 0x7C#7 = 0x20#7) ∧
    (decodeSel sel = .aLossChannel ↔ sel &&& 0x7E#7 = 0x24#7) ∧
    (decodeSel sel = .uSync ↔ sel &&& 0x70#7 = 0x10#7) ∧ (decodeSel sel = .uDrOk ↔ sel &&& 0x79#7 = 0x01#7) ∧
    (decodeSel sel = .uDrError ↔ sel &&& 0x79#7 = 0x09#7) ∧ (decodeSel sel = .uSkip ↔ sel &&& 0x71#7 = 0x00#7))

/-- R63 with the order of tests of 60_exceptions.md R110: end of stream first, then the sync match, then the flag, then
checksum and channel (ALIGNED) or the residue (UNALIGNED). -/
def Obligations.SelectionFollowsTestOrder : Prop :=
  ∀ s : State, selectedOp s =
    if 50000 < s.p.toNat + 8 then .eosFinalize
    else if s.frame = s.config.syncPattern then
      (if s.alignment = .aligned then .aFiller else .uSync)
    else if s.alignment = .aligned then
      (if s.frame.getLsbD 255 = true then .aDataError
       else if checksumOf s.frame ≠ s.frame.extractLsb' 0 32 then .aLossCrc
       else if s.decoded.channel.toNat < 9 then .aDataOk
       else .aLossChannel)
    else if s.p.toNat % 8 = s.config.drResidue then
      (if s.frame.getLsbD 255 = true then .uDrError else .uDrOk)
    else .uSkip

/-- R76: the transitions of `aligned` in a step of a buffer: UNALIGNED to ALIGNED by a sync match only, ALIGNED to
UNALIGNED by a clean frame that fails its checksum or has an invalid channel only, and UNALIGNED at the start. -/
def Obligations.AlignmentTransitionsExact : Prop :=
  State.reset.alignment = .unaligned ∧
  ∀ s t : State, HostOnly s → s.phase = .running → step s = .next t →
    (s.alignment = .unaligned →
      (t.alignment = .aligned ↔ s.p.toNat + 8 ≤ 50000 ∧ s.frame = s.config.syncPattern)) ∧
    (s.alignment = .aligned →
      (t.alignment = .unaligned ↔ s.p.toNat + 8 ≤ 50000 ∧ s.frame ≠ s.config.syncPattern ∧
        s.frame.getLsbD 255 = false ∧ ¬ (crcOkOf s.frame = true ∧ s.decoded.channel.toNat < 9)))

/-- R15 and R77: a step of a buffer that is not its last moves `p` by 8 where the next window is ALIGNED, and after a loss
by 1 under SLIDE and 8 under SKIP, and by 1 in every other UNALIGNED step; `p` never passes BUF_WORDS. -/
def Obligations.PositionAdvancesByFrameOrWord : Prop :=
  ∀ s t : State, HostOnly s → s.phase = .running → s.p.toNat + 8 ≤ 50000 → step s = .next t →
    (t.alignment = .aligned → t.p.toNat = s.p.toNat + 8) ∧
    (s.alignment = .aligned → t.alignment = .unaligned →
      t.p.toNat = s.p.toNat + (match s.config.lossResume with | .slide => 1 | .skip => 8)) ∧
    (s.alignment = .unaligned → t.alignment = .unaligned → t.p.toNat = s.p.toNat + 1) ∧
    t.p.toNat ≤ 50000

/-- R109, R110, R113: each condition is raised exactly where the table says: DESYNC_CRC in A_LOSS_CRC, DESYNC_CHANNEL
in A_LOSS_CHANNEL, SYNC_NOT_FOUND in every UNALIGNED step that is not U_SYNC, BAD_CHANNEL_ID on an aligned whole
window that is not SYNC_PATTERN and whose channel is 9..15, and there it stands first; the two conditions outside the
block never. A window raises at most one desync condition, a bad channel only with a desync or inside A_DATA_ERROR,
and the sync pattern and the partial window at the end of stream raise none. With the six codes. -/
def Obligations.ConditionsOfOneStep : Prop :=
  (∀ s : State,
    (.desyncCrc ∈ windowConditions s ↔ selectedOp s = .aLossCrc) ∧
    (.desyncChannel ∈ windowConditions s ↔ selectedOp s = .aLossChannel) ∧
    (.syncNotFound ∈ windowConditions s ↔
      selectedOp s = .uDrOk ∨ selectedOp s = .uDrError ∨ selectedOp s = .uSkip) ∧
    (.badChannelId ∈ windowConditions s ↔
      s.p.toNat + 8 ≤ 50000 ∧ s.alignment = .aligned ∧ s.frame ≠ s.config.syncPattern ∧ 9 ≤ s.decoded.channel.toNat) ∧
    (.badChannelId ∈ windowConditions s → (windowConditions s).head? = some .badChannelId) ∧
    .transportFailure ∉ windowConditions s ∧ .malformedLogLine ∉ windowConditions s ∧
    windowConditions s ∈
      [[], [.desyncCrc], [.badChannelId, .desyncCrc], [.badChannelId, .desyncChannel], [.badChannelId],
       [.syncNotFound]] ∧
    (windowConditions s = [.badChannelId] → selectedOp s = .aDataError) ∧
    (50000 < s.p.toNat + 8 → windowConditions s = []) ∧
    (s.frame = s.config.syncPattern → windowConditions s = [])) ∧
  [Condition.desyncCrc, .desyncChannel, .badChannelId, .syncNotFound, .transportFailure, .malformedLogLine].map
    conditionCode = [1, 2, 3, 4, 5, 6]

/-- R79: the tag of DEC_CLASSIFY is what the selector bits flag, crc_ok and ch_valid encode: it names the operation
selected on an aligned window that is not SYNC_PATTERN. -/
def Obligations.ClassificationNamesSelection : Prop :=
  ∀ s : State, eosAt s.p = false → s.alignment = .aligned → s.frame ≠ s.config.syncPattern →
    match classify s.decoded (crcOkOf s.frame) (checksumOf s.frame) with
    | .dataOk channel ok => selectedOp s = .aDataOk ∧ channel = s.decoded.channel ∧ ok = true
    | .loss .crc channel => selectedOp s = .aLossCrc ∧ channel = s.decoded.channel
    | .loss .channel channel => selectedOp s = .aLossChannel ∧ channel = s.decoded.channel
    | .dataError fields => selectedOp s = .aDataError ∧ fields.channel = s.decoded.channel ∧
        fields.computedCrc = checksumOf s.frame

/-- R45, R46 and R47: words written out from the encoding tables decode to the operations they stand for. (The operand
words of the last one are the model's own, assumption 5.) -/
def Obligations.TableWordsDecode : Prop :=
  decode (.sel7 0b0100110#7) = .ok .aDataOk ∧
  decode (.sel7 0b0001111#7) = .ok .uDrError ∧
  decode (.sel7 0b1101010#7) = .ok .eosFinalize ∧
  decode (.cmd8 0b00100011#8) = .ok (.recAlignedOk 3#4) ∧
  decode (.cmd8 0b01111111#8) = .ok (.recBadChannelId 15#4) ∧
  decode (.cmd8 0b00010001#8) = .error .badStatsCommand ∧
  decode (.host2 0b01#2 [1#32, 2#32]) = .ok (.hostRunBuffer [1#32, 2#32]) ∧
  decode (.host2 0b11#2 []) = .error .reservedHostCommand ∧
  decode (.internal .asmSlide [0x0000C348#32]) = .ok (.asmSlide 49992#16)

/-- Every operation, with every operand at every value, is what its own word decodes to (R45 to R47; the operand words of
the internal rows are the model's own, assumption 5). -/
def Obligations.DecodeOfEncode : Prop := ∀ i : Instr, decode (encode i) = .ok i

/-! ## frame_decoder -/

/-- R78: DEC_EXTRACT's fields: error_flag at 255, embedded_crc at 31:0, each other field of its width at its LAYOUT
place. (That the answer stands in `result` is the model's choice, assumption 2.) -/
def Obligations.DecExtractSplitsFrame : Prop :=
  ∀ (f : Frame) (s : State),
    exec (.decExtract f) s = .next { s with
      result := .fields
        { errorFlag := f.getLsbD 255
          channel := f.extractLsb' s.config.layout.channel 4
          timestamp := f.extractLsb' s.config.layout.timestamp 27
          injectedError := f.extractLsb' s.config.layout.injectedError 11
          expectedCode := f.extractLsb' s.config.layout.expectedCode 27
          receivedCode := f.extractLsb' s.config.layout.receivedCode 27
          errorPosition := f.extractLsb' s.config.layout.errorPosition 27
          runningErrorCounter := f.extractLsb' s.config.layout.runningErrorCounter 44
          embeddedCrc := f.extractLsb' 0 32 } }

/-- R41: under the default LAYOUT each field lies at the word and bits of the table's third column. -/
def Obligations.DefaultLayoutWordBits : Prop :=
  ∀ v : Window,
    let d := extractFields Layout.standard (frameOfWindow v)
    d.errorFlag = v.w0.getLsbD 31 ∧
    d.channel = v.w0.extractLsb' 24 4 ∧
    d.timestamp = v.w0.extractLsb' 0 24 ++ v.w1.extractLsb' 29 3 ∧
    d.injectedError = v.w1.extractLsb' 18 11 ∧
    d.expectedCode = v.w1.extractLsb' 0 18 ++ v.w2.extractLsb' 23 9 ∧
    d.receivedCode = v.w2.extractLsb' 0 23 ++ v.w3.extractLsb' 28 4 ∧
    d.errorPosition = v.w3.extractLsb' 1 27 ∧
    d.runningErrorCounter = v.w3.extractLsb' 0 1 ++ v.w4 ++ v.w5.extractLsb' 21 11 ∧
    d.embeddedCrc = v.w7

/-- R79: DEC_CLASSIFY's tag, case by case; an error frame is a DataError whatever `crc_ok`. (That the answer stands in
`result` is the model's choice, assumption 2.) -/
def Obligations.DecClassifyTags : Prop :=
  ∀ (d : Decoded) (crcOk : Bool) (computed : Word) (s : State), ∃ tag,
    exec (.decClassify d crcOk computed) s = .next { s with result := .tag tag } ∧
    (d.errorFlag = false → crcOk = true → d.channel.toNat < 9 → tag = .dataOk d.channel true) ∧
    (d.errorFlag = false → crcOk = false → tag = .loss .crc d.channel) ∧
    (d.errorFlag = false → crcOk = true → 9 ≤ d.channel.toNat → tag = .loss .channel d.channel) ∧
    (d.errorFlag = true → tag = .dataError
      { channel := d.channel, injectedErrorCount := d.injectedError, runningErrorCounter := d.runningErrorCounter,
        timestampField := d.timestamp, expectedCode := d.expectedCode, receivedCode := d.receivedCode,
        errorPosition := d.errorPosition, embeddedCrc := d.embeddedCrc, computedCrc := computed })

/-- R80: DEC_ERROR_RECORD's fields, the channel raw, the delta of computed and embedded. (That the answer stands in
`result` is the model's choice, assumption 2.) -/
def Obligations.DecErrorRecordFields : Prop :=
  ∀ (d : Decoded) (computed : Word) (s : State),
    exec (.decErrorRecord d computed) s = .next { s with
      result := .record
        { channel := d.channel, injectedError := d.injectedError, runningErrorCounter := d.runningErrorCounter,
          checksumDelta := BitVec.ofInt 33 ((computed.toNat : Int) - (d.embeddedCrc.toNat : Int)),
          timestampField := d.timestamp, expectedCode := d.expectedCode, receivedCode := d.receivedCode,
          errorPosition := d.errorPosition, embeddedCrc := d.embeddedCrc, computedCrc := computed } }

/-- R81: the delta is the exact signed difference, held in 33 bits without wrap, and 0 just when the two values are
equal. -/
def Obligations.ChecksumDeltaExact : Prop :=
  ∀ computed embedded : Word,
    (delta computed embedded).toInt = (computed.toNat : Int) - (embedded.toNat : Int) ∧
    -(2 ^ 32 - 1) ≤ (delta computed embedded).toInt ∧ (delta computed embedded).toInt ≤ 2 ^ 32 - 1 ∧
    (delta computed embedded = 0#33 ↔ computed = embedded)

/-- R51, R41: a frame of the stimulus notation decodes, under the default LAYOUT, to the fields of its line, and its
`good` trailer verifies and its `bad` trailer does not. -/
def Obligations.StimulusFramesDecode : Prop :=
  ∀ (flag : Bool) (d : StimFields) (crc : Word),
    extractFields Layout.standard (packFrame flag d crc) =
      { errorFlag := flag, channel := d.ch, timestamp := d.ts, injectedError := d.inj, expectedCode := d.exp,
        receivedCode := d.rcv, errorPosition := d.pos, runningErrorCounter := d.run, embeddedCrc := crc } ∧
    crcOkOf (packFrame flag d (stimTrailer flag d .good)) = true ∧
    crcOkOf (packFrame flag d (stimTrailer flag d .bad)) = false

/-! ## statistics_counter_array -/

/-- R82, R87, R88: REC_FILLER counts one filler; REC_ALIGNMENT_LOSS counts the loss and charges `alignedError` of bucket
9, not `file.alignedError`; REC_BAD_CHANNEL_ID counts one event for every channel id. None changes anything else. A
nonzero idx of the first two faults. With their command bytes. -/
def Obligations.UnbucketedCommandsCountOne : Prop :=
  (∀ s : State, exec .recFiller s =
    .next { s with file := { s.file with fillerFrames := s.file.fillerFrames + 1#32 } }) ∧
  (∀ s : State, ∃ v : Channels 32, exec .recAlignmentLoss s =
      .next { s with file := { s.file with alignmentLossEvents := s.file.alignmentLossEvents + 1#32 }, fchan := v } ∧
    ∀ (j : Nat) (hj : j < 11), v[j] =
      if j = 9 then { s.fchan[j] with alignedError := s.fchan[j].alignedError + 1#32 } else s.fchan[j]) ∧
  (∀ (c : Chan) (s : State), exec (.recBadChannelId c) s =
    .next { s with file := { s.file with badChannelIdEvents := s.file.badChannelIdEvents + 1#32 } }) ∧
  (∀ (idx : Chan) (s : State), idx ≠ 0#4 →
    fetchWord (.cmd8 (1#4 ++ idx)) s = .fault .badStatsCommand ∧
    fetchWord (.cmd8 (6#4 ++ idx)) s = .fault .badStatsCommand) ∧
  decode (.cmd8 0x10#8) = .ok .recFiller ∧ decode (.cmd8 0x60#8) = .ok .recAlignmentLoss ∧
  ∀ c : Chan, decode (.cmd8 (7#4 ++ c)) = .ok (.recBadChannelId c)

/-- R83 to R86: each of the four bucket commands, with a bucket index of 0..10, adds one to its file counter and to the
same counter of that bucket, and changes nothing else; an index of 11..15 faults. With their command bytes. -/
def Obligations.BucketCommandsCountOne : Prop :=
  (∀ k : Chan, decode (.cmd8 (2#4 ++ k)) = .ok (.recAlignedOk k) ∧
    decode (.cmd8 (3#4 ++ k)) = .ok (.recAlignedError k) ∧ decode (.cmd8 (4#4 ++ k)) = .ok (.recNotAlignedOk k) ∧
    decode (.cmd8 (5#4 ++ k)) = .ok (.recNotAlignedError k)) ∧
  ∀ (k : Chan) (s : State),
    (k.toNat ≤ 10 →
      (∃ v : Channels 32, exec (.recAlignedOk k) s =
          .next { s with file := { s.file with alignedOk := s.file.alignedOk + 1#32 }, fchan := v } ∧
        ∀ (j : Nat) (hj : j < 11), v[j] =
          if j = k.toNat then { s.fchan[j] with alignedOk := s.fchan[j].alignedOk + 1#32 } else s.fchan[j]) ∧
      (∃ v : Channels 32, exec (.recAlignedError k) s =
          .next { s with file := { s.file with alignedError := s.file.alignedError + 1#32 }, fchan := v } ∧
        ∀ (j : Nat) (hj : j < 11), v[j] =
          if j = k.toNat then { s.fchan[j] with alignedError := s.fchan[j].alignedError + 1#32 } else s.fchan[j]) ∧
      (∃ v : Channels 32, exec (.recNotAlignedOk k) s =
          .next { s with file := { s.file with notAlignedOk := s.file.notAlignedOk + 1#32 }, fchan := v } ∧
        ∀ (j : Nat) (hj : j < 11), v[j] =
          if j = k.toNat then { s.fchan[j] with notAlignedOk := s.fchan[j].notAlignedOk + 1#32 } else s.fchan[j]) ∧
      (∃ v : Channels 32, exec (.recNotAlignedError k) s =
          .next { s with file := { s.file with notAlignedError := s.file.notAlignedError + 1#32 }, fchan := v } ∧
        ∀ (j : Nat) (hj : j < 11), v[j] =
          if j = k.toNat then { s.fchan[j] with notAlignedError := s.fchan[j].notAlignedError + 1#32 }
          else s.fchan[j])) ∧
    (10 < k.toNat →
      exec (.recAlignedOk k) s = .fault .badStatsCommand ∧ exec (.recAlignedError k) s = .fault .badStatsCommand ∧
      exec (.recNotAlignedOk k) s = .fault .badStatsCommand ∧
      exec (.recNotAlignedError k) s = .fault .badStatsCommand)

/-- R89 with R90 and R91: FINALIZE_FILE emits the snapshot, adds every per-file counter to its run counter, counts the
buffer and clears the per-file counters; its command byte is 0x80, and a nonzero idx faults. -/
def Obligations.FinalizeFileMergesAndClears : Prop :=
  decode (.cmd8 0x80#8) = .ok .finalizeFile ∧
  (∀ s : State, ∃ r : Channels 64,
    exec .finalizeFile s = .next { s with
      out := s.out ++ [.fileSummary
        { fileIndex := s.buffersProcessed
          counters := s.file
          isAllFiller := decide (s.file.alignedOk = 0#32 ∧ s.file.alignedError = 0#32)
          totalFrames := s.file.fillerFrames + s.file.alignedOk + s.file.alignedError + s.file.notAlignedOk +
            s.file.notAlignedError + s.file.alignmentLossEvents
          channels := s.fchan }]
      run :=
        { fillerFrames := s.run.fillerFrames + s.file.fillerFrames.setWidth 64
          alignedOk := s.run.alignedOk + s.file.alignedOk.setWidth 64
          alignedError := s.run.alignedError + s.file.alignedError.setWidth 64
          notAlignedOk := s.run.notAlignedOk + s.file.notAlignedOk.setWidth 64
          notAlignedError := s.run.notAlignedError + s.file.notAlignedError.setWidth 64
          alignmentLossEvents := s.run.alignmentLossEvents + s.file.alignmentLossEvents.setWidth 64
          badChannelIdEvents := s.run.badChannelIdEvents + s.file.badChannelIdEvents.setWidth 64 }
      rchan := r
      buffersProcessed := s.buffersProcessed + 1#64
      file := ⟨0#32, 0#32, 0#32, 0#32, 0#32, 0#32, 0#32⟩
      fchan := Vector.replicate 11 ⟨0#32, 0#32, 0#32, 0#32⟩ } ∧
    ∀ (k : Nat) (hk : k < 11), r[k] =
      { alignedOk := s.rchan[k].alignedOk + s.fchan[k].alignedOk.setWidth 64
        alignedError := s.rchan[k].alignedError + s.fchan[k].alignedError.setWidth 64
        notAlignedOk := s.rchan[k].notAlignedOk + s.fchan[k].notAlignedOk.setWidth 64
        notAlignedError := s.rchan[k].notAlignedError + s.fchan[k].notAlignedError.setWidth 64 }) ∧
  ∀ (idx : Chan) (s : State), idx ≠ 0#4 → fetchWord (.cmd8 (8#4 ++ idx)) s = .fault .badStatsCommand

/-- R92: CLEAR_ALL zeroes every counter and `buffersProcessed`, emits nothing and changes nothing else; its command byte
is 0x90, and a nonzero idx faults. -/
def Obligations.ClearAllZeroesCounters : Prop :=
  decode (.cmd8 0x90#8) = .ok .clearAll ∧
  (∀ s : State, exec .clearAll s = .next { s with
    file := ⟨0#32, 0#32, 0#32, 0#32, 0#32, 0#32, 0#32⟩
    fchan := Vector.replicate 11 ⟨0#32, 0#32, 0#32, 0#32⟩
    run := ⟨0#64, 0#64, 0#64, 0#64, 0#64, 0#64, 0#64⟩
    rchan := Vector.replicate 11 ⟨0#64, 0#64, 0#64, 0#64⟩
    buffersProcessed := 0#64 }) ∧
  ∀ (idx : Chan) (s : State), idx ≠ 0#4 → fetchWord (.cmd8 (9#4 ++ idx)) s = .fault .badStatsCommand

/-- R93: a statistics command faults just where its op is 0x0 or 0xA..0xF or its idx lies outside its op's range: the
bytes presented to the counter array either run or fault, and those that fault are exactly the illegal ones. (`inbox`
is the model's own, assumption 1.) -/
def Obligations.IllegalStatsCommandsFault : Prop :=
  ∀ (op idx : Chan) (s : State) (rest : List OpWord), s.inbox = .cmd8 (op ++ idx) :: rest →
    (step s = .fault .badStatsCommand ↔
      op = 0#4 ∨ 10 ≤ op.toNat ∨ ((op = 1#4 ∨ op = 6#4 ∨ op = 8#4 ∨ op = 9#4) ∧ idx ≠ 0#4) ∨
        ((op = 2#4 ∨ op = 3#4 ∨ op = 4#4 ∨ op = 5#4) ∧ 10 < idx.toNat)) ∧
    (step s = .fault .badStatsCommand ∨ ∃ t, step s = .next t)

/-- R44: `route` and `clamp` send a valid channel to its own bucket, an invalid one to bucket 9 and to DR_CLAMP;
neither produces bucket 10 in a block that is built. (Under DR_CLAMP = 10 the bucket is left open among 0..8: DEDUCED,
assumption 11.) -/
def Obligations.RouteAndClampBuckets : Prop :=
  ∀ (c : Config) (ch : Chan),
    (ch.toNat < 9 → route ch = ch ∧ clamp c ch = ch) ∧
    (9 ≤ ch.toNat → route ch = 9#4 ∧ (c.drClamp ≠ 10 → clamp c ch = BitVec.ofNat 4 c.drClamp) ∧
      (c.drClamp = 10 → (clamp c ch).toNat < 9)) ∧
    (route ch).toNat ≤ 9 ∧
    (c.drClamp < 10 → (clamp c ch).toNat < 10) ∧
    (configAccepted c = true → (clamp c ch).toNat ≤ 9)

/-! ## Host commands -/

/-- R97 and R24: HOST_RESET clears every counter, makes the block UNALIGNED and IDLE with `p` = 0, emits nothing and
leaves `B`, `W` and `acc` open; power-up is such a state. Its code is 0. -/
def Obligations.HostResetLeavesResetState : Prop :=
  decode (.host2 0#2 []) = .ok .hostReset ∧
  (∀ s : State, ∃ b w a n, exec .hostReset s = .next { s with
    phase := .idle
    alignment := .unaligned
    p := 0#16
    file := ⟨0#32, 0#32, 0#32, 0#32, 0#32, 0#32, 0#32⟩
    fchan := Vector.replicate 11 ⟨0#32, 0#32, 0#32, 0#32⟩
    run := ⟨0#64, 0#64, 0#64, 0#64, 0#64, 0#64, 0#64⟩
    rchan := Vector.replicate 11 ⟨0#64, 0#64, 0#64, 0#64⟩
    buffersProcessed := 0#64
    buffer := b, window := w, acc := a, freeDraws := n }) ∧
  ∃ b w a, State.reset = { State.reset with
    phase := .idle
    alignment := .unaligned
    p := 0#16
    file := ⟨0#32, 0#32, 0#32, 0#32, 0#32, 0#32, 0#32⟩
    fchan := Vector.replicate 11 ⟨0#32, 0#32, 0#32, 0#32⟩
    run := ⟨0#64, 0#64, 0#64, 0#64, 0#64, 0#64, 0#64⟩
    rchan := Vector.replicate 11 ⟨0#64, 0#64, 0#64, 0#64⟩
    buffersProcessed := 0#64
    buffer := b, window := w, acc := a }

/-- R98's opening: HOST_RUN_BUFFER with a read that fits makes the block RUNNING and performs ASM_LOAD; `aligned` and
every counter stay. Whatever `B` and `W` held before is not read (10_state.md R24, 93_implementation_defined.md I9).
(That the command's own meaning ends where R98's loop begins is DEDUCED, assumption 8; the whole transaction is the
statement TransactionEndsInOneSummary.) -/
def Obligations.HostRunBufferLoadsAndRuns : Prop :=
  ∀ (raw : List Word) (s : State), raw.length ≤ 50000 → ∃ t,
    exec (.asmLoad raw) { s with phase := .running } = .next t ∧
    exec (.hostRunBuffer raw) s = .next t ∧
    t = { s with phase := .running, p := 0#16, buffer := t.buffer, window := t.window } ∧
    ∀ (b : Buffer) (w : Window), exec (.hostRunBuffer raw) { s with buffer := b, window := w } = .next t

/-- R99: HOST_READ_RUN emits the run totals and changes no other state. Its code is 2. -/
def Obligations.HostReadRunReportsTotals : Prop :=
  decode (.host2 2#2 []) = .ok .hostReadRun ∧
  ∀ s : State, exec .hostReadRun s = .next { s with
    out := s.out ++ [.runSummary
      { buffersProcessed := s.buffersProcessed
        counters := s.run
        totalFrames := s.run.fillerFrames + s.run.alignedOk + s.run.alignedError + s.run.notAlignedOk +
          s.run.notAlignedError + s.run.alignmentLossEvents
        alignment := s.alignment
        channels := s.rchan }] }

/-- R100: the 54 fields of the readout map, and no others. -/
def Obligations.ReadoutMapFields : Prop :=
  ∀ r : RunSummary,
    readout r 0 = some r.buffersProcessed ∧ readout r 1 = some r.counters.fillerFrames ∧
    readout r 2 = some r.counters.alignedOk ∧ readout r 3 = some r.counters.alignedError ∧
    readout r 4 = some r.counters.notAlignedOk ∧ readout r 5 = some r.counters.notAlignedError ∧
    readout r 6 = some r.counters.alignmentLossEvents ∧ readout r 7 = some r.counters.badChannelIdEvents ∧
    readout r 8 = some r.totalFrames ∧
    readout r 9 = some (if r.alignment = .aligned then 1#64 else 0#64) ∧
    (∀ (k : Nat) (hk : k < 11),
      readout r (10 + 4 * k) = some r.channels[k].alignedOk ∧
      readout r (10 + 4 * k + 1) = some r.channels[k].alignedError ∧
      readout r (10 + 4 * k + 2) = some r.channels[k].notAlignedOk ∧
      readout r (10 + 4 * k + 3) = some r.channels[k].notAlignedError) ∧
    ∀ i, 54 ≤ i → readout r i = none

/-- R115: the three refusals. An oversize read, host code 3 while IDLE and an instantiation that R116 does not accept
are refused: there is no next state. (`inbox` is the model's own, assumption 1.) -/
def Obligations.HostContractRefusals : Prop :=
  (∀ (raw : List Word) (s : State), 50000 < raw.length →
    exec (.hostRunBuffer raw) s = .refused .oversizeRead) ∧
  (∀ (raw : List Word) (s : State) (rest : List OpWord), s.inbox = .host2 3#2 raw :: rest → s.phase = .idle →
    step s = .refused .reservedHostCommand) ∧
  (∀ c : Config, configAccepted c = false → instantiate c = .refused .badConfig)

/-- R116 (1) to (4): just these configurations are accepted ((5) and (6) hold by type), and an accepted one builds a
block in its reset state. (How a LAYOUT is written down is assumption 12.) -/
def Obligations.AcceptedConfigurations : Prop :=
  ∀ c : Config,
    (configAccepted c = true ↔
      c.syncPattern ≠ 0#256 ∧
      (∀ f ∈ layoutFields c.layout, 32 ≤ f.1 ∧ f.1 + f.2 ≤ 255) ∧
      (layoutFields c.layout).Pairwise (fun a b => ∀ i, ¬ (a.1 ≤ i ∧ i < a.1 + a.2 ∧ b.1 ≤ i ∧ i < b.1 + b.2)) ∧
      c.drResidue ≤ 7 ∧ c.drClamp ≤ 10) ∧
    (configAccepted c = true → instantiate c = .next { State.reset with config := c })

/-- R96: a host command in progress is performed to completion first: while RUNNING no waiting host command is taken,
and the block becomes IDLE just at the end of stream. (`inbox` is the model's own, assumption 1.) -/
def Obligations.HostWaitsForRunningBuffer : Prop :=
  ∀ s t : State, HostOnly s → s.phase = .running → step s = .next t →
    t.inbox = s.inbox ∧ (t.phase = .idle ↔ 50000 < s.p.toNat + 8)

/-! ## Output -/

/-- R101, R10: an event is never changed or withdrawn once emitted, and a step appends at most two; a step of a buffer that
is not its last emits records and warnings only, and its last emits exactly one EV_FILE_SUMMARY; HOST_RESET emits nothing
and HOST_READ_RUN exactly one EV_RUN_SUMMARY. -/
def Obligations.OutputOnlyGrows : Prop :=
  (∀ s t : State, step s = .next t → ∃ events, t.out = s.out ++ events ∧ events.length ≤ 2) ∧
  (∀ s t : State, HostOnly s → s.phase = .running → step s = .next t →
    (s.p.toNat + 8 ≤ 50000 → ∃ events, t.out = s.out ++ events ∧ events.all isWindowEvent = true) ∧
    (50000 < s.p.toNat + 8 → ∃ r, t.out = s.out ++ [.fileSummary r] ∧ r.counters = s.file)) ∧
  (∀ s : State, ∃ t, exec .hostReset s = .next t ∧ t.out = s.out) ∧
  (∀ s : State, ∃ t r, exec .hostReadRun s = .next t ∧ t.out = s.out ++ [.runSummary r])

/-- R102: a record's line has the ten fields of the table; the aggregate stream has one line a record, in order; the stream of a raw channel is, in order, the
aggregate's lines at exactly the indices whose record has that raw channel, so that each record's line stands in the
stream of its own channel, identical, and in no other. (The sinks are outside the block and the capture times are an
argument: DEDUCED, assumption 14.) -/
def Obligations.RecordStreamsPartitionAggregate : Prop :=
  (errorRecords [] = [] ∧
    (∀ (r : ErrorRecord) (events : List Event), errorRecords (.errorRecord r :: events) = r :: errorRecords events) ∧
    ∀ (e : Event) (events : List Event), e.kind ≠ 1 → errorRecords (e :: events) = errorRecords events) ∧
  (∀ (time : String) (r : ErrorRecord), errorRecordLine time r =
    String.intercalate " "
      [time, Nat.repr r.channel.toNat, Nat.repr r.injectedError.toNat, Nat.repr r.runningErrorCounter.toNat,
        toString r.checksumDelta.toInt, Nat.repr r.timestampField.toNat, hex08 r.expectedCode, hex08 r.receivedCode,
        hex08 r.errorPosition, Nat.repr r.embeddedCrc.toNat] ++ "\n") ∧
  ∀ (times : List String) (events : List Event), times.length = (errorRecords events).length →
    (aggregateStream times events).length = (errorRecords events).length ∧
    (∀ (i : Nat) (hi : i < (errorRecords events).length),
      (aggregateStream times events)[i]? =
        some (errorRecordLine (times.getD i "") ((errorRecords events)[i]))) ∧
    (∀ ch : Chan, channelStream ch times events =
      ((List.range (errorRecords events).length).filter fun i =>
        ((errorRecords events)[i]?.map ErrorRecord.channel) == some ch).filterMap fun i =>
          (aggregateStream times events)[i]?) ∧
    (∀ ch : Chan, (channelStream ch times events).length =
      ((errorRecords events).filter fun r => r.channel == ch).length) ∧
    (∀ (ch : Chan) (line : String), line ∈ channelStream ch times events → line ∈ aggregateStream times events)

/-! ## Configuration and scratch elements -/

/-- R23: no operation writes the configuration, whatever the state and whatever is run. -/
def Obligations.ConfigurationNeverWritten : Prop :=
  (∀ (i : Instr) (s t : State), exec i s = .next t → t.config = s.config) ∧
  ∀ s t : State, step s = .next t → t.config = s.config

/-- R18: `acc` is never read outside a CK_COMPUTE, and the model's `result` is never read at all: a step from two
states that differ in them only stops alike, or leads to two states that differ in them only. (`result` is the model's
own, assumption 2; what `acc` keeps is assumption 3.) -/
def Obligations.AccumulatorNeverRead : Prop :=
  ∀ (s : State) (a : Word) (r : OpResult),
    match step s, step { s with acc := a, result := r } with
    | .next t, .next t' => ∃ a' r', t' = { t with acc := a', result := r' }
    | .fault f, .fault f' => f = f'
    | .refused q, .refused q' => q = q'
    | _, _ => False

/-! ## Invariants and the whole machine -/

/-- R24, R116: the invariants hold at reset. (The configuration of State.reset is the model's choice, assumption 6.) -/
def Obligations.InvariantsHoldAtReset : Prop :=
  SpecRun State.reset ∧ WindowInv State.reset ∧ BufferInv State.reset ∧ CounterInv State.reset

/-- 10_state.md R16: while a buffer is drained, `W[j]` is `B[p + j].WORD` at every window a step reads; every step keeps
it. -/
def Obligations.WindowStaysFaithful : Prop :=
  ∀ s t : State, WindowInv s → step s = .next t → WindowInv t

/-- 20_memory.md R26: the buffer stays in its canonical form, and while it is drained its only sentinel is the element at
BUF_WORDS; every step keeps it, whatever is presented to the block. -/
def Obligations.BufferStaysCanonical : Prop :=
  ∀ s t : State, BufferInv s → step s = .next t → BufferInv t

/-- R95 (1) to (5), R94, R49 and R127: every step of a run keeps the counter invariant, bucket 10 of the file and of
the run counters at 0 among it. (What is counted under DR_CLAMP = 10 is DEDUCED, assumption 11.) -/
def Obligations.CountersStayConsistent : Prop :=
  ∀ s t : State, CounterInv s → step s = .next t → CounterInv t

/-- R94: no per-file counter of a run wraps: each is at most 50000 at every state that meets the invariant. -/
def Obligations.FileCountersNeverWrap : Prop :=
  ∀ s : State, CounterInv s →
    s.file.fillerFrames.toNat ≤ 50000 ∧ s.file.alignedOk.toNat ≤ 50000 ∧ s.file.alignedError.toNat ≤ 50000 ∧
    s.file.notAlignedOk.toNat ≤ 50000 ∧ s.file.notAlignedError.toNat ≤ 50000 ∧
    s.file.alignmentLossEvents.toNat ≤ 50000 ∧ s.file.badChannelIdEvents.toNat ≤ 50000 ∧
    ∀ (k : Nat) (hk : k < 11), s.fchan[k].alignedOk.toNat ≤ 50000 ∧ s.fchan[k].alignedError.toNat ≤ 50000 ∧
      s.fchan[k].notAlignedOk.toNat ≤ 50000 ∧ s.fchan[k].notAlignedError.toNat ≤ 50000

/-- R95 (6): in a step of a buffer that is not its last, no counter falls. -/
def Obligations.CountersRiseWithinBuffer : Prop :=
  ∀ s t : State, CounterInv s → s.phase = .running → s.p.toNat + 8 ≤ 50000 → step s = .next t →
    s.file.fillerFrames.toNat ≤ t.file.fillerFrames.toNat ∧ s.file.alignedOk.toNat ≤ t.file.alignedOk.toNat ∧
    s.file.alignedError.toNat ≤ t.file.alignedError.toNat ∧
    s.file.notAlignedOk.toNat ≤ t.file.notAlignedOk.toNat ∧
    s.file.notAlignedError.toNat ≤ t.file.notAlignedError.toNat ∧
    s.file.alignmentLossEvents.toNat ≤ t.file.alignmentLossEvents.toNat ∧
    s.file.badChannelIdEvents.toNat ≤ t.file.badChannelIdEvents.toNat ∧
    t.run = s.run ∧ t.rchan = s.rchan ∧ t.buffersProcessed = s.buffersProcessed ∧
    ∀ (k : Nat) (hk : k < 11), s.fchan[k].alignedOk.toNat ≤ t.fchan[k].alignedOk.toNat ∧
      s.fchan[k].alignedError.toNat ≤ t.fchan[k].alignedError.toNat ∧
      s.fchan[k].notAlignedOk.toNat ≤ t.fchan[k].notAlignedOk.toNat ∧
      s.fchan[k].notAlignedError.toNat ≤ t.fchan[k].notAlignedError.toNat

/-- R114: a run as the spec has it never reaches `Faulted`, and stays such a run. -/
def Obligations.SpecRunsNeverFault : Prop :=
  ∀ s : State, SpecRun s →
    (∀ r, step s ≠ .fault r) ∧ ∀ t, step s = .next t → SpecRun t

/-- R61, R136: from every RUNNING state of a run, at most 49994 steps lead to IDLE. -/
def Obligations.EveryBufferEnds : Prop :=
  ∀ s : State, SpecRun s → s.phase = .running →
    ∃ (n : Nat) (t : State), n ≤ 49994 ∧ Host.Core.run Sys2Proof.core n s = .next t ∧ t.phase = .idle

/-- R98, R101, R17: HOST_RUN_BUFFER as one transaction always ends IDLE, emits records and warnings and then exactly
one EV_FILE_SUMMARY as its last event, counts one buffer and leaves the per-file counters 0; and the machine's own
steps from the IDLE state that holds the command lead to the state it leaves. (`inbox` is the model's own, assumption
1.) -/
def Obligations.TransactionEndsInOneSummary : Prop :=
  ∀ (raw : List Word) (s : State), SpecRun s → s.phase = .idle → raw.length ≤ 50000 →
    ∃ (t : State) (events : List Event) (r : FileSummary) (n : Nat),
      runTransaction raw s = .next t ∧ t.phase = .idle ∧
      t.out = s.out ++ events ++ [.fileSummary r] ∧ events.all isWindowEvent = true ∧
      r.fileIndex = s.buffersProcessed ∧ t.buffersProcessed = s.buffersProcessed + 1#64 ∧
      t.file = Counters.zero fileCtrBits ∧ t.fchan = Channels.zero fileCtrBits ∧ t.inbox = s.inbox ∧
      n ≤ 49995 ∧
      Host.Core.run Sys2Proof.core n { s with inbox := .host2 1#2 raw :: s.inbox } = .next t

/-- R136, R131: a buffer scanned wholly UNALIGNED with no sync match takes 49993 windows and ends at `p` = 49993, still
UNALIGNED, having classified dead-reckoning observations only. -/
def Obligations.UnmatchedBufferScansEveryWord : Prop :=
  ∀ s : State, SpecRun s → WindowInv s → s.phase = .running → s.alignment = .unaligned → s.p = 0#16 →
    (∀ q, q + 8 ≤ 50000 → frameOfWindow (windowAt s.buffer q) ≠ s.config.syncPattern) →
    ∃ t u, drain 49993 s = .next t ∧ t.phase = .running ∧ t.p.toNat = 49993 ∧ t.alignment = .unaligned ∧
      t.out = s.out ∧ t.file.fillerFrames = s.file.fillerFrames ∧ t.file.alignedOk = s.file.alignedOk ∧
      t.file.alignedError = s.file.alignedError ∧ t.file.alignmentLossEvents = s.file.alignmentLossEvents ∧
      t.file.badChannelIdEvents = s.file.badChannelIdEvents ∧
      drain 49994 s = .next u ∧ u.phase = .idle ∧ u.p = t.p ∧ u.alignment = .unaligned

/-- R72's and R98's example: under the default DR_RESIDUE, a buffer of zero-words scanned from UNALIGNED, for every
nonzero SYNC_PATTERN, ends with 6249 dead-reckoning observations in bucket 0 and every other counter 0. -/
def Obligations.ZeroBufferCounts : Prop :=
  ∀ (n : Nat) (s : State), n ≤ 50000 → CounterInv s → s.phase = .idle → s.alignment = .unaligned →
    s.config.drResidue = 1 →
    ∃ t, runTransaction (List.replicate n 0#32) s = .next t ∧ t.alignment = .unaligned ∧
      t.out = s.out ++ [.fileSummary
        { fileIndex := s.buffersProcessed
          counters := ⟨0#32, 0#32, 0#32, 6249#32, 0#32, 0#32, 0#32⟩
          isAllFiller := true
          totalFrames := 6249#32
          channels := (Vector.replicate 11 ⟨0#32, 0#32, 0#32, 0#32⟩).set 0 ⟨0#32, 0#32, 6249#32, 0#32⟩ }]
end

