-- ==== Sys2Proof/Laws/Buffer.lean ====
section
/-!
SUPPORT. The buffer: what ASM_LOAD leaves in each element, and its canonical form, which every operation keeps.
-/

namespace Sys2Proof.Machine

theorem bufWords_eq : bufWords = 50000 := rfl

/-- An index before the first entry has no entry. -/
theorem cellAt_of_lt {d : Token} {i : Nat} : ∀ {lo : Nat} {cells : List (Nat × Token)},
    risingFrom lo cells = true → i < lo → cellAt d i cells = d
  | _, [], _, _ => rfl
  | lo, (j, t) :: rest, h, hi => by
    simp only [risingFrom, Bool.and_eq_true, decide_eq_true_eq] at h
    have hj : j ≠ i := by omega
    simp only [cellAt, hj, if_false]
    exact cellAt_of_lt h.2 (by omega)

/-- A rising list of entries rises from any earlier index too. -/
theorem risingFrom_mono {lo lo' : Nat} (hl : lo' ≤ lo) : ∀ {cells : List (Nat × Token)},
    risingFrom lo cells = true → risingFrom lo' cells = true
  | [], _ => rfl
  | (j, t) :: rest, h => by
    simp only [risingFrom, Bool.and_eq_true, decide_eq_true_eq] at h ⊢
    exact ⟨by omega, h.2⟩

theorem tokenWord_dataToken (w : Word) : tokenWord (dataToken w) = w := by
  apply BitVec.eq_of_getLsbD_eq
  intro i hi
  simp only [tokenWord, dataToken, BitVec.getLsbD_extractLsb', BitVec.getLsbD_append, Nat.zero_add]
  simp [hi]

theorem dataToken_eq_zero {w : Word} : dataToken w = dataToken 0#32 ↔ w = 0#32 := by
  constructor
  · intro h
    simpa only [tokenWord_dataToken] using congrArg tokenWord h
  · rintro rfl; rfl

theorem tokenIsSentinel_dataToken (w : Word) : tokenIsSentinel (dataToken w) = false := by
  rw [tokenIsSentinel, dataToken, BitVec.getLsbD_append]; rfl

theorem tokenIsSentinel_sentinelToken : tokenIsSentinel sentinelToken = true := by decide

theorem loadCells_rising : ∀ (raw : List Word) (i : Nat), i + raw.length ≤ bufWords →
    risingFrom i (loadCells i raw) = true
  | [], i, h => by simpa [loadCells, risingFrom] using h
  | w :: rest, i, h => by
    have h' : i + 1 + rest.length ≤ bufWords := by simpa [Nat.add_assoc, Nat.add_comm 1] using h
    have ih := loadCells_rising rest (i + 1) h'
    unfold loadCells
    split
    · exact risingFrom_mono (by omega) ih
    · simpa [risingFrom] using ih

theorem loadCells_legal : ∀ (raw : List Word) (i : Nat), i + raw.length ≤ bufWords →
    (loadCells i raw).all (fun c => decide (c.1 ≤ bufWords) && c.2 != dataToken 0#32) = true
  | [], i, _ => by simp [loadCells]; decide
  | w :: rest, i, h => by
    have h' : i + 1 + rest.length ≤ bufWords := by simpa [Nat.add_assoc, Nat.add_comm 1] using h
    have ih := loadCells_legal rest (i + 1) h'
    unfold loadCells
    split
    · exact ih
    · rename_i hw
      have hi : i ≤ bufWords := by omega
      simp only [List.all_cons, Bool.and_eq_true]
      exact ⟨by simpa [hi, dataToken_eq_zero] using hw, ih⟩

/-- What a raw read leaves in each element from index `i` on. -/
theorem cellAt_loadCells : ∀ (raw : List Word) (i : Nat), i + raw.length ≤ bufWords → ∀ j,
    cellAt (dataToken 0#32) (i + j) (loadCells i raw) =
      if j < raw.length then dataToken (raw.getD j 0#32)
      else if i + j = bufWords then sentinelToken else dataToken 0#32
  | [], i, _, j => by
    by_cases hj : i + j = bufWords
    · simp [loadCells, cellAt, hj]
    · simp [loadCells, cellAt, hj, Ne.symm hj]
  | w :: rest, i, h, j => by
    have h' : i + 1 + rest.length ≤ bufWords := by simpa [Nat.add_assoc, Nat.add_comm 1] using h
    have ih := cellAt_loadCells rest (i + 1) h'
    cases j with
    | zero =>
      have hb : risingFrom (i + 1) (loadCells (i + 1) rest) = true := loadCells_rising rest (i + 1) h'
      by_cases hw : w = 0#32
      · simp [loadCells, hw, cellAt_of_lt hb]
      · simp [loadCells, hw, cellAt]
    | succ j =>
      have e : i + (j + 1) = i + 1 + j := by omega
      by_cases hw : w = 0#32
      · simpa [loadCells, hw, e] using ih j
      · have ne : i ≠ i + 1 + j := by omega
        simpa [loadCells, hw, e, cellAt, ne] using ih j

/-- ASM_LOAD's buffer, element by element (20_memory.md R26, 41_frame_assembler.md R57). -/
theorem bufferRead_loadBuffer {raw : List Word} (h : raw.length ≤ bufWords) (j : Nat) :
    bufferRead (loadBuffer raw) j =
      if j < raw.length then dataToken (raw.getD j 0#32)
      else if j = bufWords then sentinelToken else dataToken 0#32 := by
  simpa [bufferRead, loadBuffer, fillToken] using cellAt_loadCells raw 0 (by simpa using h) j

/-- ASM_LOAD's buffer is canonical. -/
theorem loadBuffer_wf {raw : List Word} (h : raw.length ≤ bufWords) : (loadBuffer raw).wf = true := by
  simp only [Buffer.wf, loadBuffer, Bool.and_eq_true]
  exact ⟨loadCells_rising raw 0 (by simpa using h), loadCells_legal raw 0 (by simpa using h)⟩

/-- A buffer of unspecified contents is canonical. -/
theorem freeBuffer_wf (n : Nat) : (Buffer.mk (.free n) []).wf = true := rfl

/-- ASM_LOAD keeps the canonical form. -/
theorem loadRead_wf {raw : List Word} {s : State} (h : raw.length ≤ bufWords) :
    (loadRead raw s).buffer.wf = true := loadBuffer_wf h

/-- ASM_NEXT_FRAME keeps the canonical form: it writes no element. -/
theorem advanceFrame_wf {p : Pos} {s : State} (h : s.buffer.wf = true) : (advanceFrame p s).buffer.wf = true := h

/-- ASM_SLIDE keeps the canonical form: it writes no element. -/
theorem slideWord_wf {p : Pos} {s : State} (h : s.buffer.wf = true) : (slideWord p s).buffer.wf = true := h

/-- The buffer at reset is canonical. -/
theorem reset_buffer_wf : State.reset.buffer.wf = true := rfl

end Sys2Proof.Machine
end

