-- ==== Sys2Proof/Laws/Frame.lean ====
section
/-!
SUPPORT. Frames and windows: the leading word and the trailer of a window's frame, the payload as all but the trailer, and
the window read at a position.
-/

namespace Sys2Proof.Machine

/-- The trailer of a frame put together of a payload and a word. -/
theorem embeddedCrcOf_append (x : BitVec 224) (w : Word) : embeddedCrcOf (x ++ w) = w := by
  apply BitVec.eq_of_getLsbD_eq
  intro i hi
  simp only [embeddedCrcOf, BitVec.getLsbD_extractLsb', BitVec.getLsbD_append, Nat.zero_add]
  simp [hi]

/-- The payload bytes do not depend on the trailer. -/
theorem payloadBytes_append (x : BitVec 224) (w w' : Word) : payloadBytes (x ++ w) = payloadBytes (x ++ w') := by
  unfold payloadBytes payloadLen
  apply List.map_congr_left
  intro k hk
  have hk : k < 28 := by simpa using hk
  unfold payloadByte
  apply BitVec.eq_of_getLsbD_eq
  intro i hi
  have h1 : ¬ 248 - 8 * k + i < 32 := by omega
  simp only [BitVec.getLsbD_extractLsb', BitVec.getLsbD_append, hi, h1, decide_true, Bool.true_and, if_false]

/-- The checksum does not depend on the trailer. -/
theorem checksumOf_append (x : BitVec 224) (w w' : Word) : checksumOf (x ++ w) = checksumOf (x ++ w') := by
  unfold checksumOf; rw [payloadBytes_append x w w']

/-- A payload with a trailer verifies just where the trailer is its checksum. -/
theorem crcOkOf_append (x : BitVec 224) (w : Word) : crcOkOf (x ++ w) = decide (checksumOf (x ++ 0#32) = w) := by
  unfold crcOkOf
  rw [embeddedCrcOf_append, checksumOf_append x w 0#32, beq_eq_decide]

/-- The leading word of a window's frame. -/
theorem frameOfWindow_leading (v : Window) : (frameOfWindow v).extractLsb' 224 32 = v.w0 := by
  apply BitVec.eq_of_getLsbD_eq
  intro i hi
  unfold frameOfWindow
  rw [BitVec.getLsbD_extractLsb', BitVec.getLsbD_append, if_neg (by omega), BitVec.getLsbD_append, if_neg (by omega),
    BitVec.getLsbD_append, if_neg (by omega), BitVec.getLsbD_append, if_neg (by omega), BitVec.getLsbD_append,
    if_neg (by omega), BitVec.getLsbD_append, if_neg (by omega), BitVec.getLsbD_append, if_neg (by omega)]
  have : 224 + i - 32 - 32 - 32 - 32 - 32 - 32 - 32 = i := by omega
  rw [this]
  simp [hi]

/-- A window is the sync pattern only if its leading word is the pattern's. -/
theorem frame_ne_of_leading {v : Window} {f : Frame} (h : v.w0 ≠ f.extractLsb' 224 32) : frameOfWindow v ≠ f := by
  rintro rfl; exact h (frameOfWindow_leading v).symm

/-- The words of the window read at a position. -/
theorem windowWord_windowAt (b : Buffer) (p j : Nat) (hj : j < frameWords) :
    windowWord (windowAt b p) j = tokenWord (bufferRead b (p + j)) := by
  simp only [frameWords] at hj
  rcases j with _ | _ | _ | _ | _ | _ | _ | _ | j <;> first | rfl | omega

/-- A window read at its own position is faithful. -/
theorem windowFaithful_of_eq {s : State} (h : s.window = windowAt s.buffer s.p.toNat) : WindowFaithful s := by
  intro _ j hj
  rw [h]; exact windowWord_windowAt _ _ j hj

/-- ASM_LOAD's buffer holds its one sentinel at BUF_WORDS. -/
theorem sentinel_loadBuffer {raw : List Word} (h : raw.length ≤ bufWords) (i : Nat) :
    i ≤ bufWords → tokenIsSentinel (bufferRead (loadBuffer raw) i) = decide (i = bufWords) := by
  intro _
  rw [bufferRead_loadBuffer h]
  split
  · have : i ≠ bufWords := by omega
    rw [tokenIsSentinel_dataToken]; simp [this]
  · split
    · rename_i h2; rw [tokenIsSentinel_sentinelToken]; simp [h2]
    · rename_i h2; rw [tokenIsSentinel_dataToken]; simp [h2]

end Sys2Proof.Machine
end

