-- ==== Sys2Proof/Laws/State.lean ====
section
/-!
SUPPORT. For each named update of the state, what it leaves in each field: one lemma per field per update, all true by
definition, so that no later proof unfolds an update.
-/

namespace Sys2Proof.Machine

variable (s : State)

/-! ## emit -/

@[simp] theorem emit_phase (e : Event) : (emit e s).phase = s.phase := rfl
@[simp] theorem emit_alignment (e : Event) : (emit e s).alignment = s.alignment := rfl
@[simp] theorem emit_p (e : Event) : (emit e s).p = s.p := rfl
@[simp] theorem emit_buffer (e : Event) : (emit e s).buffer = s.buffer := rfl
@[simp] theorem emit_window (e : Event) : (emit e s).window = s.window := rfl
@[simp] theorem emit_acc (e : Event) : (emit e s).acc = s.acc := rfl
@[simp] theorem emit_file (e : Event) : (emit e s).file = s.file := rfl
@[simp] theorem emit_fchan (e : Event) : (emit e s).fchan = s.fchan := rfl
@[simp] theorem emit_run (e : Event) : (emit e s).run = s.run := rfl
@[simp] theorem emit_rchan (e : Event) : (emit e s).rchan = s.rchan := rfl
@[simp] theorem emit_buffersProcessed (e : Event) : (emit e s).buffersProcessed = s.buffersProcessed := rfl
@[simp] theorem emit_out (e : Event) : (emit e s).out = s.out ++ [e] := rfl
@[simp] theorem emit_config (e : Event) : (emit e s).config = s.config := rfl
@[simp] theorem emit_inbox (e : Event) : (emit e s).inbox = s.inbox := rfl
@[simp] theorem emit_result (e : Event) : (emit e s).result = s.result := rfl
@[simp] theorem emit_freeDraws (e : Event) : (emit e s).freeDraws = s.freeDraws := rfl

/-! ## countFiller -/

@[simp] theorem countFiller_phase : (countFiller s).phase = s.phase := rfl
@[simp] theorem countFiller_alignment : (countFiller s).alignment = s.alignment := rfl
@[simp] theorem countFiller_p : (countFiller s).p = s.p := rfl
@[simp] theorem countFiller_buffer : (countFiller s).buffer = s.buffer := rfl
@[simp] theorem countFiller_window : (countFiller s).window = s.window := rfl
@[simp] theorem countFiller_acc : (countFiller s).acc = s.acc := rfl
@[simp] theorem countFiller_file :
    (countFiller s).file =
      { s.file with fillerFrames := s.file.fillerFrames + 1#32 } := rfl
@[simp] theorem countFiller_fchan : (countFiller s).fchan = s.fchan := rfl
@[simp] theorem countFiller_run : (countFiller s).run = s.run := rfl
@[simp] theorem countFiller_rchan : (countFiller s).rchan = s.rchan := rfl
@[simp] theorem countFiller_buffersProcessed : (countFiller s).buffersProcessed = s.buffersProcessed := rfl
@[simp] theorem countFiller_out : (countFiller s).out = s.out := rfl
@[simp] theorem countFiller_config : (countFiller s).config = s.config := rfl
@[simp] theorem countFiller_inbox : (countFiller s).inbox = s.inbox := rfl
@[simp] theorem countFiller_result : (countFiller s).result = s.result := rfl
@[simp] theorem countFiller_freeDraws : (countFiller s).freeDraws = s.freeDraws := rfl

/-! ## countAlignedOk -/

@[simp] theorem countAlignedOk_phase (k : Chan) : (countAlignedOk k s).phase = s.phase := rfl
@[simp] theorem countAlignedOk_alignment (k : Chan) : (countAlignedOk k s).alignment = s.alignment := rfl
@[simp] theorem countAlignedOk_p (k : Chan) : (countAlignedOk k s).p = s.p := rfl
@[simp] theorem countAlignedOk_buffer (k : Chan) : (countAlignedOk k s).buffer = s.buffer := rfl
@[simp] theorem countAlignedOk_window (k : Chan) : (countAlignedOk k s).window = s.window := rfl
@[simp] theorem countAlignedOk_acc (k : Chan) : (countAlignedOk k s).acc = s.acc := rfl
@[simp] theorem countAlignedOk_file (k : Chan) :
    (countAlignedOk k s).file =
      { s.file with alignedOk := s.file.alignedOk + 1#32 } := rfl
@[simp] theorem countAlignedOk_fchan (k : Chan) :
    (countAlignedOk k s).fchan =
      updateBucket k bumpAlignedOk s.fchan := rfl
@[simp] theorem countAlignedOk_run (k : Chan) : (countAlignedOk k s).run = s.run := rfl
@[simp] theorem countAlignedOk_rchan (k : Chan) : (countAlignedOk k s).rchan = s.rchan := rfl
@[simp] theorem countAlignedOk_buffersProcessed (k : Chan) :
    (countAlignedOk k s).buffersProcessed =
      s.buffersProcessed := rfl
@[simp] theorem countAlignedOk_out (k : Chan) : (countAlignedOk k s).out = s.out := rfl
@[simp] theorem countAlignedOk_config (k : Chan) : (countAlignedOk k s).config = s.config := rfl
@[simp] theorem countAlignedOk_inbox (k : Chan) : (countAlignedOk k s).inbox = s.inbox := rfl
@[simp] theorem countAlignedOk_result (k : Chan) : (countAlignedOk k s).result = s.result := rfl
@[simp] theorem countAlignedOk_freeDraws (k : Chan) : (countAlignedOk k s).freeDraws = s.freeDraws := rfl

/-! ## countAlignedError -/

@[simp] theorem countAlignedError_phase (k : Chan) : (countAlignedError k s).phase = s.phase := rfl
@[simp] theorem countAlignedError_alignment (k : Chan) : (countAlignedError k s).alignment = s.alignment := rfl
@[simp] theorem countAlignedError_p (k : Chan) : (countAlignedError k s).p = s.p := rfl
@[simp] theorem countAlignedError_buffer (k : Chan) : (countAlignedError k s).buffer = s.buffer := rfl
@[simp] theorem countAlignedError_window (k : Chan) : (countAlignedError k s).window = s.window := rfl
@[simp] theorem countAlignedError_acc (k : Chan) : (countAlignedError k s).acc = s.acc := rfl
@[simp] theorem countAlignedError_file (k : Chan) :
    (countAlignedError k s).file =
      { s.file with alignedError := s.file.alignedError + 1#32 } := rfl
@[simp] theorem countAlignedError_fchan (k : Chan) :
    (countAlignedError k s).fchan =
      updateBucket k bumpAlignedError s.fchan := rfl
@[simp] theorem countAlignedError_run (k : Chan) : (countAlignedError k s).run = s.run := rfl
@[simp] theorem countAlignedError_rchan (k : Chan) : (countAlignedError k s).rchan = s.rchan := rfl
@[simp] theorem countAlignedError_buffersProcessed (k : Chan) :
    (countAlignedError k s).buffersProcessed =
      s.buffersProcessed := rfl
@[simp] theorem countAlignedError_out (k : Chan) : (countAlignedError k s).out = s.out := rfl
@[simp] theorem countAlignedError_config (k : Chan) : (countAlignedError k s).config = s.config := rfl
@[simp] theorem countAlignedError_inbox (k : Chan) : (countAlignedError k s).inbox = s.inbox := rfl
@[simp] theorem countAlignedError_result (k : Chan) : (countAlignedError k s).result = s.result := rfl
@[simp] theorem countAlignedError_freeDraws (k : Chan) : (countAlignedError k s).freeDraws = s.freeDraws := rfl

/-! ## countNotAlignedOk -/

@[simp] theorem countNotAlignedOk_phase (k : Chan) : (countNotAlignedOk k s).phase = s.phase := rfl
@[simp] theorem countNotAlignedOk_alignment (k : Chan) : (countNotAlignedOk k s).alignment = s.alignment := rfl
@[simp] theorem countNotAlignedOk_p (k : Chan) : (countNotAlignedOk k s).p = s.p := rfl
@[simp] theorem countNotAlignedOk_buffer (k : Chan) : (countNotAlignedOk k s).buffer = s.buffer := rfl
@[simp] theorem countNotAlignedOk_window (k : Chan) : (countNotAlignedOk k s).window = s.window := rfl
@[simp] theorem countNotAlignedOk_acc (k : Chan) : (countNotAlignedOk k s).acc = s.acc := rfl
@[simp] theorem countNotAlignedOk_file (k : Chan) :
    (countNotAlignedOk k s).file =
      { s.file with notAlignedOk := s.file.notAlignedOk + 1#32 } := rfl
@[simp] theorem countNotAlignedOk_fchan (k : Chan) :
    (countNotAlignedOk k s).fchan =
      updateBucket k bumpNotAlignedOk s.fchan := rfl
@[simp] theorem countNotAlignedOk_run (k : Chan) : (countNotAlignedOk k s).run = s.run := rfl
@[simp] theorem countNotAlignedOk_rchan (k : Chan) : (countNotAlignedOk k s).rchan = s.rchan := rfl
@[simp] theorem countNotAlignedOk_buffersProcessed (k : Chan) :
    (countNotAlignedOk k s).buffersProcessed =
      s.buffersProcessed := rfl
@[simp] theorem countNotAlignedOk_out (k : Chan) : (countNotAlignedOk k s).out = s.out := rfl
@[simp] theorem countNotAlignedOk_config (k : Chan) : (countNotAlignedOk k s).config = s.config := rfl
@[simp] theorem countNotAlignedOk_inbox (k : Chan) : (countNotAlignedOk k s).inbox = s.inbox := rfl
@[simp] theorem countNotAlignedOk_result (k : Chan) : (countNotAlignedOk k s).result = s.result := rfl
@[simp] theorem countNotAlignedOk_freeDraws (k : Chan) : (countNotAlignedOk k s).freeDraws = s.freeDraws := rfl

/-! ## countNotAlignedError -/

@[simp] theorem countNotAlignedError_phase (k : Chan) : (countNotAlignedError k s).phase = s.phase := rfl
@[simp] theorem countNotAlignedError_alignment (k : Chan) : (countNotAlignedError k s).alignment = s.alignment := rfl
@[simp] theorem countNotAlignedError_p (k : Chan) : (countNotAlignedError k s).p = s.p := rfl
@[simp] theorem countNotAlignedError_buffer (k : Chan) : (countNotAlignedError k s).buffer = s.buffer := rfl
@[simp] theorem countNotAlignedError_window (k : Chan) : (countNotAlignedError k s).window = s.window := rfl
@[simp] theorem countNotAlignedError_acc (k : Chan) : (countNotAlignedError k s).acc = s.acc := rfl
@[simp] theorem countNotAlignedError_file (k : Chan) :
    (countNotAlignedError k s).file =
      { s.file with notAlignedError := s.file.notAlignedError + 1#32 } := rfl
@[simp] theorem countNotAlignedError_fchan (k : Chan) :
    (countNotAlignedError k s).fchan =
      updateBucket k bumpNotAlignedError s.fchan := rfl
@[simp] theorem countNotAlignedError_run (k : Chan) : (countNotAlignedError k s).run = s.run := rfl
@[simp] theorem countNotAlignedError_rchan (k : Chan) : (countNotAlignedError k s).rchan = s.rchan := rfl
@[simp] theorem countNotAlignedError_buffersProcessed (k : Chan) :
    (countNotAlignedError k s).buffersProcessed =
      s.buffersProcessed := rfl
@[simp] theorem countNotAlignedError_out (k : Chan) : (countNotAlignedError k s).out = s.out := rfl
@[simp] theorem countNotAlignedError_config (k : Chan) : (countNotAlignedError k s).config = s.config := rfl
@[simp] theorem countNotAlignedError_inbox (k : Chan) : (countNotAlignedError k s).inbox = s.inbox := rfl
@[simp] theorem countNotAlignedError_result (k : Chan) : (countNotAlignedError k s).result = s.result := rfl
@[simp] theorem countNotAlignedError_freeDraws (k : Chan) : (countNotAlignedError k s).freeDraws = s.freeDraws := rfl

/-! ## countAlignmentLoss -/

@[simp] theorem countAlignmentLoss_phase : (countAlignmentLoss s).phase = s.phase := rfl
@[simp] theorem countAlignmentLoss_alignment : (countAlignmentLoss s).alignment = s.alignment := rfl
@[simp] theorem countAlignmentLoss_p : (countAlignmentLoss s).p = s.p := rfl
@[simp] theorem countAlignmentLoss_buffer : (countAlignmentLoss s).buffer = s.buffer := rfl
@[simp] theorem countAlignmentLoss_window : (countAlignmentLoss s).window = s.window := rfl
@[simp] theorem countAlignmentLoss_acc : (countAlignmentLoss s).acc = s.acc := rfl
@[simp] theorem countAlignmentLoss_file :
    (countAlignmentLoss s).file =
      { s.file with alignmentLossEvents := s.file.alignmentLossEvents + 1#32 } := rfl
@[simp] theorem countAlignmentLoss_fchan :
    (countAlignmentLoss s).fchan =
      updateBucket ovfIndex bumpAlignedError s.fchan := rfl
@[simp] theorem countAlignmentLoss_run : (countAlignmentLoss s).run = s.run := rfl
@[simp] theorem countAlignmentLoss_rchan : (countAlignmentLoss s).rchan = s.rchan := rfl
@[simp] theorem countAlignmentLoss_buffersProcessed :
    (countAlignmentLoss s).buffersProcessed =
      s.buffersProcessed := rfl
@[simp] theorem countAlignmentLoss_out : (countAlignmentLoss s).out = s.out := rfl
@[simp] theorem countAlignmentLoss_config : (countAlignmentLoss s).config = s.config := rfl
@[simp] theorem countAlignmentLoss_inbox : (countAlignmentLoss s).inbox = s.inbox := rfl
@[simp] theorem countAlignmentLoss_result : (countAlignmentLoss s).result = s.result := rfl
@[simp] theorem countAlignmentLoss_freeDraws : (countAlignmentLoss s).freeDraws = s.freeDraws := rfl

/-! ## countBadChannelId -/

@[simp] theorem countBadChannelId_phase : (countBadChannelId s).phase = s.phase := rfl
@[simp] theorem countBadChannelId_alignment : (countBadChannelId s).alignment = s.alignment := rfl
@[simp] theorem countBadChannelId_p : (countBadChannelId s).p = s.p := rfl
@[simp] theorem countBadChannelId_buffer : (countBadChannelId s).buffer = s.buffer := rfl
@[simp] theorem countBadChannelId_window : (countBadChannelId s).window = s.window := rfl
@[simp] theorem countBadChannelId_acc : (countBadChannelId s).acc = s.acc := rfl
@[simp] theorem countBadChannelId_file :
    (countBadChannelId s).file =
      { s.file with badChannelIdEvents := s.file.badChannelIdEvents + 1#32 } := rfl
@[simp] theorem countBadChannelId_fchan : (countBadChannelId s).fchan = s.fchan := rfl
@[simp] theorem countBadChannelId_run : (countBadChannelId s).run = s.run := rfl
@[simp] theorem countBadChannelId_rchan : (countBadChannelId s).rchan = s.rchan := rfl
@[simp] theorem countBadChannelId_buffersProcessed :
    (countBadChannelId s).buffersProcessed =
      s.buffersProcessed := rfl
@[simp] theorem countBadChannelId_out : (countBadChannelId s).out = s.out := rfl
@[simp] theorem countBadChannelId_config : (countBadChannelId s).config = s.config := rfl
@[simp] theorem countBadChannelId_inbox : (countBadChannelId s).inbox = s.inbox := rfl
@[simp] theorem countBadChannelId_result : (countBadChannelId s).result = s.result := rfl
@[simp] theorem countBadChannelId_freeDraws : (countBadChannelId s).freeDraws = s.freeDraws := rfl

/-! ## mergeFile -/

@[simp] theorem mergeFile_phase : (mergeFile s).phase = s.phase := rfl
@[simp] theorem mergeFile_alignment : (mergeFile s).alignment = s.alignment := rfl
@[simp] theorem mergeFile_p : (mergeFile s).p = s.p := rfl
@[simp] theorem mergeFile_buffer : (mergeFile s).buffer = s.buffer := rfl
@[simp] theorem mergeFile_window : (mergeFile s).window = s.window := rfl
@[simp] theorem mergeFile_acc : (mergeFile s).acc = s.acc := rfl
@[simp] theorem mergeFile_file : (mergeFile s).file = Counters.zero fileCtrBits := rfl
@[simp] theorem mergeFile_fchan : (mergeFile s).fchan = Channels.zero fileCtrBits := rfl
@[simp] theorem mergeFile_run : (mergeFile s).run = addCounters s.run (widenCounters s.file) := rfl
@[simp] theorem mergeFile_rchan : (mergeFile s).rchan = mergeChannels s.rchan s.fchan := rfl
@[simp] theorem mergeFile_buffersProcessed : (mergeFile s).buffersProcessed = s.buffersProcessed + 1#64 := rfl
@[simp] theorem mergeFile_out : (mergeFile s).out = s.out := rfl
@[simp] theorem mergeFile_config : (mergeFile s).config = s.config := rfl
@[simp] theorem mergeFile_inbox : (mergeFile s).inbox = s.inbox := rfl
@[simp] theorem mergeFile_result : (mergeFile s).result = s.result := rfl
@[simp] theorem mergeFile_freeDraws : (mergeFile s).freeDraws = s.freeDraws := rfl

/-! ## clearCounters -/

@[simp] theorem clearCounters_phase : (clearCounters s).phase = s.phase := rfl
@[simp] theorem clearCounters_alignment : (clearCounters s).alignment = s.alignment := rfl
@[simp] theorem clearCounters_p : (clearCounters s).p = s.p := rfl
@[simp] theorem clearCounters_buffer : (clearCounters s).buffer = s.buffer := rfl
@[simp] theorem clearCounters_window : (clearCounters s).window = s.window := rfl
@[simp] theorem clearCounters_acc : (clearCounters s).acc = s.acc := rfl
@[simp] theorem clearCounters_file : (clearCounters s).file = Counters.zero fileCtrBits := rfl
@[simp] theorem clearCounters_fchan : (clearCounters s).fchan = Channels.zero fileCtrBits := rfl
@[simp] theorem clearCounters_run : (clearCounters s).run = Counters.zero runCtrBits := rfl
@[simp] theorem clearCounters_rchan : (clearCounters s).rchan = Channels.zero runCtrBits := rfl
@[simp] theorem clearCounters_buffersProcessed : (clearCounters s).buffersProcessed = 0#64 := rfl
@[simp] theorem clearCounters_out : (clearCounters s).out = s.out := rfl
@[simp] theorem clearCounters_config : (clearCounters s).config = s.config := rfl
@[simp] theorem clearCounters_inbox : (clearCounters s).inbox = s.inbox := rfl
@[simp] theorem clearCounters_result : (clearCounters s).result = s.result := rfl
@[simp] theorem clearCounters_freeDraws : (clearCounters s).freeDraws = s.freeDraws := rfl

/-! ## loadRead -/

@[simp] theorem loadRead_phase (raw : List Word) : (loadRead raw s).phase = s.phase := rfl
@[simp] theorem loadRead_alignment (raw : List Word) : (loadRead raw s).alignment = s.alignment := rfl
@[simp] theorem loadRead_p (raw : List Word) : (loadRead raw s).p = 0#16 := rfl
@[simp] theorem loadRead_buffer (raw : List Word) : (loadRead raw s).buffer = loadBuffer raw := rfl
@[simp] theorem loadRead_window (raw : List Word) : (loadRead raw s).window = windowAt (loadBuffer raw) 0 := rfl
@[simp] theorem loadRead_acc (raw : List Word) : (loadRead raw s).acc = s.acc := rfl
@[simp] theorem loadRead_file (raw : List Word) : (loadRead raw s).file = s.file := rfl
@[simp] theorem loadRead_fchan (raw : List Word) : (loadRead raw s).fchan = s.fchan := rfl
@[simp] theorem loadRead_run (raw : List Word) : (loadRead raw s).run = s.run := rfl
@[simp] theorem loadRead_rchan (raw : List Word) : (loadRead raw s).rchan = s.rchan := rfl
@[simp] theorem loadRead_buffersProcessed (raw : List Word) :
    (loadRead raw s).buffersProcessed =
      s.buffersProcessed := rfl
@[simp] theorem loadRead_out (raw : List Word) : (loadRead raw s).out = s.out := rfl
@[simp] theorem loadRead_config (raw : List Word) : (loadRead raw s).config = s.config := rfl
@[simp] theorem loadRead_inbox (raw : List Word) : (loadRead raw s).inbox = s.inbox := rfl
@[simp] theorem loadRead_result (raw : List Word) : (loadRead raw s).result = s.result := rfl
@[simp] theorem loadRead_freeDraws (raw : List Word) : (loadRead raw s).freeDraws = s.freeDraws := rfl

/-! ## advanceFrame -/

@[simp] theorem advanceFrame_phase (p : Pos) : (advanceFrame p s).phase = s.phase := rfl
@[simp] theorem advanceFrame_alignment (p : Pos) : (advanceFrame p s).alignment = s.alignment := rfl
@[simp] theorem advanceFrame_p (p : Pos) : (advanceFrame p s).p = p + 8#16 := rfl
@[simp] theorem advanceFrame_buffer (p : Pos) : (advanceFrame p s).buffer = s.buffer := rfl
@[simp] theorem advanceFrame_window (p : Pos) :
    (advanceFrame p s).window =
      if eosAt (p + 8#16) then s.window else windowAt s.buffer (p + 8#16).toNat := rfl
@[simp] theorem advanceFrame_acc (p : Pos) : (advanceFrame p s).acc = s.acc := rfl
@[simp] theorem advanceFrame_file (p : Pos) : (advanceFrame p s).file = s.file := rfl
@[simp] theorem advanceFrame_fchan (p : Pos) : (advanceFrame p s).fchan = s.fchan := rfl
@[simp] theorem advanceFrame_run (p : Pos) : (advanceFrame p s).run = s.run := rfl
@[simp] theorem advanceFrame_rchan (p : Pos) : (advanceFrame p s).rchan = s.rchan := rfl
@[simp] theorem advanceFrame_buffersProcessed (p : Pos) :
    (advanceFrame p s).buffersProcessed =
      s.buffersProcessed := rfl
@[simp] theorem advanceFrame_out (p : Pos) : (advanceFrame p s).out = s.out := rfl
@[simp] theorem advanceFrame_config (p : Pos) : (advanceFrame p s).config = s.config := rfl
@[simp] theorem advanceFrame_inbox (p : Pos) : (advanceFrame p s).inbox = s.inbox := rfl
@[simp] theorem advanceFrame_result (p : Pos) : (advanceFrame p s).result = s.result := rfl
@[simp] theorem advanceFrame_freeDraws (p : Pos) : (advanceFrame p s).freeDraws = s.freeDraws := rfl

/-! ## slideWord -/

@[simp] theorem slideWord_phase (p : Pos) : (slideWord p s).phase = s.phase := rfl
@[simp] theorem slideWord_alignment (p : Pos) : (slideWord p s).alignment = s.alignment := rfl
@[simp] theorem slideWord_p (p : Pos) : (slideWord p s).p = p + 1#16 := rfl
@[simp] theorem slideWord_buffer (p : Pos) : (slideWord p s).buffer = s.buffer := rfl
@[simp] theorem slideWord_window (p : Pos) :
    (slideWord p s).window =
      if eosAt (p + 1#16) then s.window
      else shiftWindow s.window (tokenWord (bufferRead s.buffer ((p + 1#16).toNat + 7))) := rfl
@[simp] theorem slideWord_acc (p : Pos) : (slideWord p s).acc = s.acc := rfl
@[simp] theorem slideWord_file (p : Pos) : (slideWord p s).file = s.file := rfl
@[simp] theorem slideWord_fchan (p : Pos) : (slideWord p s).fchan = s.fchan := rfl
@[simp] theorem slideWord_run (p : Pos) : (slideWord p s).run = s.run := rfl
@[simp] theorem slideWord_rchan (p : Pos) : (slideWord p s).rchan = s.rchan := rfl
@[simp] theorem slideWord_buffersProcessed (p : Pos) : (slideWord p s).buffersProcessed = s.buffersProcessed := rfl
@[simp] theorem slideWord_out (p : Pos) : (slideWord p s).out = s.out := rfl
@[simp] theorem slideWord_config (p : Pos) : (slideWord p s).config = s.config := rfl
@[simp] theorem slideWord_inbox (p : Pos) : (slideWord p s).inbox = s.inbox := rfl
@[simp] theorem slideWord_result (p : Pos) : (slideWord p s).result = s.result := rfl
@[simp] theorem slideWord_freeDraws (p : Pos) : (slideWord p s).freeDraws = s.freeDraws := rfl

end Sys2Proof.Machine
end

