-- ==== Sys2Proof/Laws/Ops.lean ====
section
/-!
SUPPORT. One lemma for each shared operation that says all it can do: sequencing, the bucket update, the bucket sums, the
command interface, the fetch.
-/

namespace Sys2Proof.Machine

/-! ## Sequencing -/

@[simp] theorem andThen_next (s : State) (f : State → Result) : andThen (.next s) f = f s := rfl
@[simp] theorem andThen_fault (r : Fault) (f : State → Result) : andThen (.fault r) f = .fault r := rfl
@[simp] theorem andThen_refused (r : Refusal) (f : State → Result) : andThen (.refused r) f = .refused r := rfl

/-- Two actions in a row answer a next state just where both do. -/
theorem andThen_eq_next {o : Result} {f : State → Result} {t : State} :
    andThen o f = .next t ↔ ∃ u, o = .next u ∧ f u = .next t := by
  cases o <;> simp [andThen]

/-- A command with a bucket index runs just where the index is legal. -/
theorem withBucket_eq_next {k : Chan} {s t : State} :
    withBucket k s = .next t ↔ k.toNat < numBuckets ∧ t = s := by
  unfold withBucket; split <;> simp_all [eq_comm]

/-- A command with an illegal bucket index faults. -/
theorem withBucket_of_illegal {k : Chan} {s : State} (h : ¬ k.toNat < numBuckets) :
    withBucket k s = .fault .badStatsCommand := by simp [withBucket, h]

@[simp] theorem withBucket_of_legal {k : Chan} {s : State} (h : k.toNat < numBuckets) :
    withBucket k s = .next s := by simp [withBucket, h]

/-! ## Buckets -/

/-- A bucket after the update of bucket `k`. -/
theorem getElem_updateBucket {w : Nat} (k : Chan) (f : Bucket w → Bucket w) (v : Channels w) (j : Nat)
    (hj : j < numBuckets) : (updateBucket k f v)[j] = if k.toNat = j then f v[j] else v[j] := by
  unfold updateBucket
  split
  · rw [Vector.getElem_set]; split <;> simp_all
  · rename_i h
    have : k.toNat ≠ j := by omega
    simp [this]

/-- The other buckets stay. -/
theorem getElem_updateBucket_ne {w : Nat} {k : Chan} (f : Bucket w → Bucket w) (v : Channels w) {j : Nat}
    (hj : j < numBuckets) (h : k.toNat ≠ j) : (updateBucket k f v)[j] = v[j] := by
  rw [getElem_updateBucket]; simp [h]

/-- A sum over a list in which one element changes. -/
theorem sum_map_set {α : Type} (g : α → Nat) (x : α) : ∀ (l : List α) (i : Nat) (h : i < l.length),
    ((l.set i x).map g).sum + g l[i] = (l.map g).sum + g x
  | [], i, h => absurd h (by simp)
  | a :: l, 0, _ => by simp; omega
  | a :: l, i + 1, h => by
    have ih := sum_map_set g x l i (by simpa using h)
    simp only [List.set_cons_succ, List.map_cons, List.sum_cons, List.getElem_cons_succ]
    omega

/-- A bucket sum after the update of a bucket. -/
theorem bucketSum_updateBucket {w : Nat} (g : Bucket w → BitVec w) (k : Chan) (f : Bucket w → Bucket w)
    (v : Channels w) (h : k.toNat < numBuckets) :
    bucketSum g (updateBucket k f v) + (g v[k.toNat]).toNat = bucketSum g v + (g (f v[k.toNat])).toNat := by
  have hl : k.toNat < v.toList.length := by simpa using h
  have := sum_map_set (fun b => (g b).toNat) (f v[k.toNat]) v.toList k.toNat hl
  simpa [bucketSum, updateBucket, h, Vector.toList_set] using this

/-- Each bucket's field is at most the sum. -/
theorem le_bucketSum {w : Nat} (g : Bucket w → BitVec w) (v : Channels w) (j : Nat) (hj : j < numBuckets) :
    (g v[j]).toNat ≤ bucketSum g v := by
  have hmem : (g v[j]).toNat ∈ v.toList.map (fun b => (g b).toNat) :=
    List.mem_map.2 ⟨v[j], by simp, rfl⟩
  exact List.le_sum_of_mem hmem

/-! ## The command interface (30_encoding.md R46) -/

theorem stats_filler (s : State) : stats opFiller 0#4 s = .next (countFiller s) := rfl
theorem stats_alignmentLoss (s : State) : stats opAlignmentLoss 0#4 s = .next (countAlignmentLoss s) := rfl
theorem stats_finalizeFile (s : State) :
    stats opFinalizeFile 0#4 s = .next (mergeFile (emit (.fileSummary (fileSummary s)) s)) := rfl
theorem stats_clearAll (s : State) : stats opClearAll 0#4 s = .next (clearCounters s) := rfl

/-- The decoder reads back the command that carries a bucket index or a channel id. -/
theorem decodeCmd_statsWord (k : Chan) :
    decodeCmd (statsWord 2#4 k) = .ok (.recAlignedOk k) ∧ decodeCmd (statsWord 3#4 k) = .ok (.recAlignedError k) ∧
      decodeCmd (statsWord 4#4 k) = .ok (.recNotAlignedOk k) ∧
      decodeCmd (statsWord 5#4 k) = .ok (.recNotAlignedError k) ∧
      decodeCmd (statsWord 7#4 k) = .ok (.recBadChannelId k) := by
  revert k; decide

theorem stats_alignedOk (k : Chan) (s : State) :
    stats opAlignedOk k s = withBucket k (countAlignedOk k s) := by
  simp only [stats, opAlignedOk, (decodeCmd_statsWord k).1, execRecAlignedOk]
theorem stats_alignedError (k : Chan) (s : State) :
    stats opAlignedError k s = withBucket k (countAlignedError k s) := by
  simp only [stats, opAlignedError, (decodeCmd_statsWord k).2.1, execRecAlignedError]
theorem stats_notAlignedOk (k : Chan) (s : State) :
    stats opNotAlignedOk k s = withBucket k (countNotAlignedOk k s) := by
  simp only [stats, opNotAlignedOk, (decodeCmd_statsWord k).2.2.1, execRecNotAlignedOk]
theorem stats_notAlignedError (k : Chan) (s : State) :
    stats opNotAlignedError k s = withBucket k (countNotAlignedError k s) := by
  simp only [stats, opNotAlignedError, (decodeCmd_statsWord k).2.2.2.1, execRecNotAlignedError]
theorem stats_badChannelId (k : Chan) (s : State) : stats opBadChannelId k s = .next (countBadChannelId s) := by
  simp only [stats, opBadChannelId, (decodeCmd_statsWord k).2.2.2.2, execRecBadChannelId]

/-! ## Routing (R44) -/

theorem route_legal (ch : Chan) : (route ch).toNat < numBuckets := by revert ch; decide

/-- All that `clamp` gives in a block that is built: one of the valid channels, or DR_CLAMP where that is not bucket
10. -/
theorem clamp_cases {c : Config} (h : c.drClamp ≤ 10) (tch : Chan) :
    (clamp c tch).toNat < 9 ∨ ((clamp c tch).toNat = c.drClamp ∧ c.drClamp < 10) := by
  unfold clamp
  split
  · exact .inl (of_decide_eq_true ‹channelValid tch = true›)
  · split
    · have := (Config.freeClampBucket tch).isLt
      exact .inl (by rw [BitVec.toNat_ofNat]; omega)
    · rename_i hd
      have : c.drClamp ≠ 10 := hd
      exact .inr ⟨by rw [BitVec.toNat_ofNat]; omega, by omega⟩

theorem clamp_legal {c : Config} (h : c.drClamp ≤ 10) (tch : Chan) : (clamp c tch).toNat < numBuckets := by
  have := clamp_cases h tch
  simp only [numBuckets]
  omega

/-- The DR_CLAMP of a block that is built (R116 (4)). -/
theorem drClamp_le_of_accepted {c : Config} (h : configAccepted c = true) : c.drClamp ≤ 10 := by
  simp only [configAccepted, Bool.and_eq_true, decide_eq_true_eq] at h
  exact h.2

/-- In a block that is built no dead-reckoning observation is counted in bucket 10. -/
theorem clamp_lt_of_accepted {c : Config} (h : configAccepted c = true) (tch : Chan) : (clamp c tch).toNat < 10 := by
  have := clamp_cases (drClamp_le_of_accepted h) tch
  omega

/-! ## The meanings of the step outcomes, run -/

theorem execEosFinalize_eq (s : State) : execEosFinalize s =
    .next { mergeFile (emit (.fileSummary (fileSummary s)) s) with phase := .idle } := rfl

theorem execAFiller_eq (s : State) : execAFiller s = .next (advanceFrame s.p (countFiller s)) := rfl

theorem execUSync_eq (s : State) :
    execUSync s = .next (advanceFrame s.p { countFiller s with alignment := .aligned }) := rfl

theorem execUSkip_eq (s : State) : execUSkip s = .next (slideWord s.p s) := rfl

theorem execADataOk_eq (s : State) : execADataOk s =
    andThen (withBucket s.decoded.channel (countAlignedOk s.decoded.channel s)) fun s => .next (advanceFrame s.p s) := by
  unfold execADataOk; rw [stats_alignedOk]

theorem execUDrOk_eq (s : State) : execUDrOk s =
    andThen (withBucket (clamp s.config (tentativeChannel s.frame))
      (countNotAlignedOk (clamp s.config (tentativeChannel s.frame)) s)) fun s => .next (slideWord s.p s) := by
  unfold execUDrOk; rw [stats_notAlignedOk]

theorem execUDrError_eq (s : State) : execUDrError s =
    andThen (withBucket (clamp s.config (tentativeChannel s.frame))
      (countNotAlignedError (clamp s.config (tentativeChannel s.frame)) s)) fun s => .next (slideWord s.p s) := by
  unfold execUDrError; rw [stats_notAlignedError]

/-- BAD_CHANNEL always runs. -/
theorem reportBadChannel_eq (channel : Chan) (flag crcOk : Bool) (s : State) :
    reportBadChannel channel flag crcOk s =
      .next (emit (.badChannel ⟨channel, flag, if flag then false else crcOk, s.p⟩) (countBadChannelId s)) := by
  unfold reportBadChannel; rw [stats_badChannelId]; rfl

/-- The state after BAD_CHANNEL where the window's channel is invalid. -/
def reported (flag crcOk : Bool) (s : State) : State :=
  if channelValid s.decoded.channel then s
  else emit (.badChannel ⟨s.decoded.channel, flag, if flag then false else crcOk, s.p⟩) (countBadChannelId s)

theorem reportIfInvalid_eq (flag crcOk : Bool) (s : State) :
    reportIfInvalid flag crcOk s = .next (reported flag crcOk s) := by
  unfold reportIfInvalid reported; rw [reportBadChannel_eq]; split <;> rfl

theorem loseAlignment_eq (s : State) :
    loseAlignment s = .next (resumeAfterLoss { countAlignmentLoss s with alignment := .unaligned }) := rfl

theorem execALossCrc_eq (s : State) : execALossCrc s =
    .next (resumeAfterLoss { countAlignmentLoss (reported false false s) with alignment := .unaligned }) := by
  unfold execALossCrc; rw [reportIfInvalid_eq]; rfl

theorem execALossChannel_eq (s : State) : execALossChannel s =
    .next (resumeAfterLoss { countAlignmentLoss
      (emit (.badChannel ⟨s.decoded.channel, false, true, s.p⟩) (countBadChannelId s)) with
      alignment := .unaligned }) := by
  unfold execALossChannel; rw [reportBadChannel_eq]; rfl

theorem reported_frame (flag crcOk : Bool) (s : State) : (reported flag crcOk s).frame = s.frame := by
  unfold reported; split <;> rfl

@[simp] theorem reported_config (flag crcOk : Bool) (s : State) : (reported flag crcOk s).config = s.config := by
  unfold reported; split <;> rfl

theorem reported_decoded (flag crcOk : Bool) (s : State) : (reported flag crcOk s).decoded = s.decoded := by
  unfold reported; split <;> rfl

@[simp] theorem reported_p (flag crcOk : Bool) (s : State) : (reported flag crcOk s).p = s.p := by
  unfold reported; split <;> rfl

/-! ## Fields that BAD_CHANNEL and the resumption keep -/

@[simp] theorem reported_phase (flag crcOk : Bool) (s : State) : (reported flag crcOk s).phase = s.phase := by
  unfold reported; split <;> rfl
@[simp] theorem reported_alignment (flag crcOk : Bool) (s : State) : (reported flag crcOk s).alignment = s.alignment := by
  unfold reported; split <;> rfl
@[simp] theorem reported_buffer (flag crcOk : Bool) (s : State) : (reported flag crcOk s).buffer = s.buffer := by
  unfold reported; split <;> rfl
@[simp] theorem reported_window (flag crcOk : Bool) (s : State) : (reported flag crcOk s).window = s.window := by
  unfold reported; split <;> rfl
@[simp] theorem reported_acc (flag crcOk : Bool) (s : State) : (reported flag crcOk s).acc = s.acc := by
  unfold reported; split <;> rfl
@[simp] theorem reported_fchan (flag crcOk : Bool) (s : State) : (reported flag crcOk s).fchan = s.fchan := by
  unfold reported; split <;> rfl
@[simp] theorem reported_run (flag crcOk : Bool) (s : State) : (reported flag crcOk s).run = s.run := by
  unfold reported; split <;> rfl
@[simp] theorem reported_rchan (flag crcOk : Bool) (s : State) : (reported flag crcOk s).rchan = s.rchan := by
  unfold reported; split <;> rfl
@[simp] theorem reported_buffersProcessed (flag crcOk : Bool) (s : State) : (reported flag crcOk s).buffersProcessed = s.buffersProcessed := by
  unfold reported; split <;> rfl
@[simp] theorem reported_inbox (flag crcOk : Bool) (s : State) : (reported flag crcOk s).inbox = s.inbox := by
  unfold reported; split <;> rfl
@[simp] theorem reported_result (flag crcOk : Bool) (s : State) : (reported flag crcOk s).result = s.result := by
  unfold reported; split <;> rfl
@[simp] theorem reported_freeDraws (flag crcOk : Bool) (s : State) : (reported flag crcOk s).freeDraws = s.freeDraws := by
  unfold reported; split <;> rfl
@[simp] theorem reported_file (flag crcOk : Bool) (s : State) : (reported flag crcOk s).file =
    if channelValid s.decoded.channel then s.file
    else { s.file with badChannelIdEvents := s.file.badChannelIdEvents + 1#32 } := by
  unfold reported; split <;> rfl
@[simp] theorem reported_out (flag crcOk : Bool) (s : State) : (reported flag crcOk s).out =
    if channelValid s.decoded.channel then s.out
    else s.out ++ [.badChannel ⟨s.decoded.channel, flag, if flag then false else crcOk, s.p⟩] := by
  unfold reported; split <;> rfl
@[simp] theorem resumeAfterLoss_phase (s : State) : (resumeAfterLoss s).phase = s.phase := by
  unfold resumeAfterLoss; split <;> rfl
@[simp] theorem resumeAfterLoss_alignment (s : State) : (resumeAfterLoss s).alignment = s.alignment := by
  unfold resumeAfterLoss; split <;> rfl
@[simp] theorem resumeAfterLoss_buffer (s : State) : (resumeAfterLoss s).buffer = s.buffer := by
  unfold resumeAfterLoss; split <;> rfl
@[simp] theorem resumeAfterLoss_acc (s : State) : (resumeAfterLoss s).acc = s.acc := by
  unfold resumeAfterLoss; split <;> rfl
@[simp] theorem resumeAfterLoss_file (s : State) : (resumeAfterLoss s).file = s.file := by
  unfold resumeAfterLoss; split <;> rfl
@[simp] theorem resumeAfterLoss_fchan (s : State) : (resumeAfterLoss s).fchan = s.fchan := by
  unfold resumeAfterLoss; split <;> rfl
@[simp] theorem resumeAfterLoss_run (s : State) : (resumeAfterLoss s).run = s.run := by
  unfold resumeAfterLoss; split <;> rfl
@[simp] theorem resumeAfterLoss_rchan (s : State) : (resumeAfterLoss s).rchan = s.rchan := by
  unfold resumeAfterLoss; split <;> rfl
@[simp] theorem resumeAfterLoss_buffersProcessed (s : State) : (resumeAfterLoss s).buffersProcessed = s.buffersProcessed := by
  unfold resumeAfterLoss; split <;> rfl
@[simp] theorem resumeAfterLoss_out (s : State) : (resumeAfterLoss s).out = s.out := by
  unfold resumeAfterLoss; split <;> rfl
@[simp] theorem resumeAfterLoss_config (s : State) : (resumeAfterLoss s).config = s.config := by
  unfold resumeAfterLoss; split <;> rfl
@[simp] theorem resumeAfterLoss_inbox (s : State) : (resumeAfterLoss s).inbox = s.inbox := by
  unfold resumeAfterLoss; split <;> rfl
@[simp] theorem resumeAfterLoss_result (s : State) : (resumeAfterLoss s).result = s.result := by
  unfold resumeAfterLoss; split <;> rfl
@[simp] theorem resumeAfterLoss_freeDraws (s : State) : (resumeAfterLoss s).freeDraws = s.freeDraws := by
  unfold resumeAfterLoss; split <;> rfl

/-- A_DATA_ERROR always runs. -/
theorem execADataError_eq (s : State) : execADataError s =
    .next (advanceFrame s.p (emit (.errorRecord (errorRecordOf s.decoded (checksumOf s.frame)))
      (countAlignedError (route s.decoded.channel) (reported true false s)))) := by
  unfold execADataError
  rw [reportIfInvalid_eq]
  simp only [andThen_next, reported_decoded, stats_alignedError, withBucket_of_legal (route_legal _)]
  have hd : ∀ k u, (countAlignedError k u).decoded = u.decoded := fun _ _ => rfl
  have hf : ∀ k u, (countAlignedError k u).frame = u.frame := fun _ _ => rfl
  simp only [hd, hf, reported_decoded, reported_frame, countAlignedError_p, reported_p]

/-! ## The fetch -/

/-- All a fetch can find. -/
theorem fetch_cases (s : State) :
    fetch s = fetchWindow s ∨
      ∃ ow rest, s.inbox = ow :: rest ∧ fetch s = fetchWord ow { s with inbox := rest } ∧
        (ow.isHost = true → s.phase = .idle) := by
  unfold fetch
  split
  · exact .inl rfl
  · rename_i ow rest h
    split
    · exact .inl rfl
    · rename_i hp; exact .inr ⟨ow, rest, h, rfl, fun _ => hp⟩
    · rename_i hf; exact .inr ⟨ow, rest, h, rfl, fun ht => by simp [hf] at ht⟩

/-- Where only host commands wait and a buffer is drained, the fetch is the window's own operation. -/
theorem fetch_running {s : State} (hh : HostOnly s) (hr : s.phase = .running) :
    fetch s = .run (selectedOp s) (evaluateWindow s) := by
  unfold fetch
  split
  · simp [fetchWindow, hr]
  · rename_i ow rest h
    have : ow.isHost = true := hh ow (by simp [h])
    simp [this, hr, fetchWindow]

/-- A word is run as the operation it decodes to, or stops as its rejection says. -/
theorem fetchWord_cases (ow : OpWord) (s : State) :
    (∃ i, decode ow = .ok i ∧ fetchWord ow s = .run i s) ∨
      (decode ow = .error .badStatsCommand ∧ fetchWord ow s = .fault .badStatsCommand) ∨
      (decode ow = .error .reservedHostCommand ∧ fetchWord ow s = .refused .reservedHostCommand) ∨
      (decode ow = .error .malformedOperation ∧ fetchWord ow s = .refused .malformedOperation) := by
  unfold fetchWord
  split <;> simp_all

/-- STEP's evaluation changes `acc` at most. -/
theorem evaluateWindow_eq (s : State) : ∃ a, evaluateWindow s = { s with acc := a } := by
  unfold evaluateWindow
  split
  · exact ⟨_, rfl⟩
  · exact ⟨s.acc, rfl⟩

end Sys2Proof.Machine
end

