-- ==== Sys2Proof/Laws/PerInstr.lean ====
section
/-!
SUPPORT. A family of statements made for each operation: the word the encoder writes lies in the operation's row of
spec/opcode_table.json, whose mask and match are written out here once more, from the table and not from the encoder.
-/

namespace Sys2Proof.Laws

/-- A row of spec/opcode_table.json: its mnemonic, and for the formats that have selector bits its mask and match. -/
inductive TableRow where
  | internal (mnemonic : String) (row : InternalRow)
  | sel7 (mnemonic : String) (mask value : BitVec 7)
  | cmd8 (mnemonic : String) (mask value : BitVec 8)
  | host2 (mnemonic : String) (value : BitVec 2)
deriving DecidableEq, Repr

/-- An operation word lies in a row. -/
def TableRow.holds : TableRow → OpWord → Prop
  | .internal _ row, .internal row' _ => row' = row
  | .sel7 _ mask value, .sel7 sel => sel &&& mask = value
  | .cmd8 _ mask value, .cmd8 cmd => cmd &&& mask = value
  | .host2 _ value, .host2 code _ => code = value
  | _, _ => False

/-- The row of each operation. -/
def TableRow.of : Instr → TableRow
  | .ckUpdate _ _ => .internal "CK_UPDATE" .ckUpdate
  | .ckCompute _ => .internal "CK_COMPUTE" .ckCompute
  | .ckVerify _ => .internal "CK_VERIFY" .ckVerify
  | .asmLoad _ => .internal "ASM_LOAD" .asmLoad
  | .asmEos _ => .internal "ASM_EOS" .asmEos
  | .asmNextFrame _ => .internal "ASM_NEXT_FRAME" .asmNextFrame
  | .asmSlide _ => .internal "ASM_SLIDE" .asmSlide
  | .eosFinalize => .sel7 "EOS_FINALIZE" 0x40#7 0x40#7
  | .aFiller => .sel7 "A_FILLER" 0x70#7 0x30#7
  | .aDataError => .sel7 "A_DATA_ERROR" 0x78#7 0x28#7
  | .aDataOk => .sel7 "A_DATA_OK" 0x7E#7 0x26#7
  | .aLossCrc => .sel7 "A_LOSS_CRC" 0x7C#7 0x20#7
  | .aLossChannel => .sel7 "A_LOSS_CHANNEL" 0x7E#7 0x24#7
  | .uSync => .sel7 "U_SYNC" 0x70#7 0x10#7
  | .uDrOk => .sel7 "U_DR_OK" 0x79#7 0x01#7
  | .uDrError => .sel7 "U_DR_ERROR" 0x79#7 0x09#7
  | .uSkip => .sel7 "U_SKIP" 0x71#7 0x00#7
  | .badChannel _ _ _ => .internal "BAD_CHANNEL" .badChannel
  | .decExtract _ => .internal "DEC_EXTRACT" .decExtract
  | .decClassify _ _ _ => .internal "DEC_CLASSIFY" .decClassify
  | .decErrorRecord _ _ => .internal "DEC_ERROR_RECORD" .decErrorRecord
  | .recFiller => .cmd8 "REC_FILLER" 0xFF#8 0x10#8
  | .recAlignedOk _ => .cmd8 "REC_ALIGNED_OK" 0xF0#8 0x20#8
  | .recAlignedError _ => .cmd8 "REC_ALIGNED_ERROR" 0xF0#8 0x30#8
  | .recNotAlignedOk _ => .cmd8 "REC_NOT_ALIGNED_OK" 0xF0#8 0x40#8
  | .recNotAlignedError _ => .cmd8 "REC_NOT_ALIGNED_ERROR" 0xF0#8 0x50#8
  | .recAlignmentLoss => .cmd8 "REC_ALIGNMENT_LOSS" 0xFF#8 0x60#8
  | .recBadChannelId _ => .cmd8 "REC_BAD_CHANNEL_ID" 0xF0#8 0x70#8
  | .finalizeFile => .cmd8 "FINALIZE_FILE" 0xFF#8 0x80#8
  | .clearAll => .cmd8 "CLEAR_ALL" 0xFF#8 0x90#8
  | .hostReset => .host2 "HOST_RESET" 0#2
  | .hostRunBuffer _ => .host2 "HOST_RUN_BUFFER" 1#2
  | .hostReadRun => .host2 "HOST_READ_RUN" 2#2

/-- The statement of the family: the encoder's word lies in the operation's own row. -/
def TableRow.Statement (i : Instr) : Prop := (TableRow.of i).holds (encode i)

/-- A bucket index or channel id never reaches the op bits of a command. -/
theorem statsWord_op (op idx : Chan) : statsWord op idx &&& 0xF0#8 = statsWord op 0#4 := by
  revert op idx; decide

theorem TableRow.ckUpdate (b : Byte) (acc : Word) : TableRow.Statement (.ckUpdate b acc) := rfl
theorem TableRow.ckCompute (f : Frame) : TableRow.Statement (.ckCompute f) := rfl
theorem TableRow.ckVerify (f : Frame) : TableRow.Statement (.ckVerify f) := rfl
theorem TableRow.asmLoad (raw : List Word) : TableRow.Statement (.asmLoad raw) := rfl
theorem TableRow.asmEos (p : Pos) : TableRow.Statement (.asmEos p) := rfl
theorem TableRow.asmNextFrame (p : Pos) : TableRow.Statement (.asmNextFrame p) := rfl
theorem TableRow.asmSlide (p : Pos) : TableRow.Statement (.asmSlide p) := rfl
theorem TableRow.eosFinalize : TableRow.Statement .eosFinalize := rfl
theorem TableRow.aFiller : TableRow.Statement .aFiller := rfl
theorem TableRow.aDataError : TableRow.Statement .aDataError := rfl
theorem TableRow.aDataOk : TableRow.Statement .aDataOk := rfl
theorem TableRow.aLossCrc : TableRow.Statement .aLossCrc := rfl
theorem TableRow.aLossChannel : TableRow.Statement .aLossChannel := rfl
theorem TableRow.uSync : TableRow.Statement .uSync := rfl
theorem TableRow.uDrOk : TableRow.Statement .uDrOk := rfl
theorem TableRow.uDrError : TableRow.Statement .uDrError := rfl
theorem TableRow.uSkip : TableRow.Statement .uSkip := rfl
theorem TableRow.badChannel (channel : Chan) (flag : Bool) (crcOk : Bool) : TableRow.Statement (.badChannel channel flag crcOk) := rfl
theorem TableRow.decExtract (f : Frame) : TableRow.Statement (.decExtract f) := rfl
theorem TableRow.decClassify (d : Decoded) (crcOk : Bool) (computed : Word) : TableRow.Statement (.decClassify d crcOk computed) := rfl
theorem TableRow.decErrorRecord (d : Decoded) (computed : Word) : TableRow.Statement (.decErrorRecord d computed) := rfl
theorem TableRow.recFiller : TableRow.Statement .recFiller := rfl
theorem TableRow.recAlignedOk (k : Chan) : TableRow.Statement (.recAlignedOk k) := statsWord_op _ _
theorem TableRow.recAlignedError (k : Chan) : TableRow.Statement (.recAlignedError k) := statsWord_op _ _
theorem TableRow.recNotAlignedOk (k : Chan) : TableRow.Statement (.recNotAlignedOk k) := statsWord_op _ _
theorem TableRow.recNotAlignedError (k : Chan) : TableRow.Statement (.recNotAlignedError k) := statsWord_op _ _
theorem TableRow.recAlignmentLoss : TableRow.Statement .recAlignmentLoss := rfl
theorem TableRow.recBadChannelId (c : Chan) : TableRow.Statement (.recBadChannelId c) := statsWord_op _ _
theorem TableRow.finalizeFile : TableRow.Statement .finalizeFile := rfl
theorem TableRow.clearAll : TableRow.Statement .clearAll := rfl
theorem TableRow.hostReset : TableRow.Statement .hostReset := rfl
theorem TableRow.hostRunBuffer (raw : List Word) : TableRow.Statement (.hostRunBuffer raw) := rfl
theorem TableRow.hostReadRun : TableRow.Statement .hostReadRun := rfl

end Sys2Proof.Laws
end

