-- ==== Sys2Proof/Laws/Step.lean ====
section
/-!
SUPPORT. What a step can do: the selection as a decision tree over the flag functions, and the inversion of a window step
(`WindowOutcome`), from which the invariants are derived.
-/

namespace Sys2Proof.Machine

/-! ## Flag functions as propositions -/

theorem eosAt_eq_true {p : Pos} : eosAt p = true ↔ 50000 < p.toNat + 8 := by
  unfold eosAt; rw [decide_eq_true_iff]; rfl

theorem eosAt_eq_false {p : Pos} : eosAt p = false ↔ p.toNat + 8 ≤ 50000 := by
  rw [← Bool.not_eq_true, eosAt_eq_true]; omega

theorem channelValid_eq_true {ch : Chan} : channelValid ch = true ↔ ch.toNat < 9 := by
  unfold channelValid; rw [decide_eq_true_iff]; rfl

theorem channelValid_eq_false {ch : Chan} : channelValid ch = false ↔ 9 ≤ ch.toNat := by
  rw [← Bool.not_eq_true, channelValid_eq_true]; omega

theorem syncHere_eq_true {s : State} : syncHere s = true ↔ s.frame = s.config.syncPattern := by simp [syncHere]

theorem syncHere_eq_false {s : State} : syncHere s = false ↔ s.frame ≠ s.config.syncPattern := by simp [syncHere]

theorem residueHere_eq_true {s : State} : residueHere s = true ↔ s.p.toNat % 8 = s.config.drResidue := by
  simp [residueHere]

theorem crcOkOf_eq_true {f : Frame} : crcOkOf f = true ↔ checksumOf f = f.extractLsb' 0 32 := by
  simp [crcOkOf, embeddedCrcOf]

/-! ## Selection -/

/-- The row that seven bits select (30_encoding.md R45). -/
theorem decodeSel_bits (aligned sync flag crcOk chValid drPhase : Bool) :
    decodeSel (bit false ++ bit aligned ++ bit sync ++ bit flag ++ bit crcOk ++ bit chValid ++ bit drPhase) =
      if sync then (if aligned then .aFiller else .uSync)
      else if aligned then
        (if flag then .aDataError else if crcOk then (if chValid then .aDataOk else .aLossChannel) else .aLossCrc)
      else if drPhase then (if flag then .uDrError else .uDrOk)
      else .uSkip := by
  revert aligned sync flag crcOk chValid drPhase; decide

/-- Selection as a decision tree over the flag functions. -/
theorem selectedOp_tree (s : State) : selectedOp s =
    if eosAt s.p then .eosFinalize
    else if syncHere s then (if alignedBit s.alignment then .aFiller else .uSync)
    else if alignedBit s.alignment then
      (if errorFlagOf s.frame then .aDataError
       else if crcOkOf s.frame then (if channelValid s.decoded.channel then .aDataOk else .aLossChannel)
       else .aLossCrc)
    else if residueHere s then (if errorFlagOf s.frame then .uDrError else .uDrOk)
    else .uSkip := by
  unfold selectedOp selector
  split
  · rfl
  · rw [decodeSel_bits]
    cases hs : syncHere s <;> cases ha : alignedBit s.alignment <;> simp [checksHere, reckonsHere, hs, ha]

/-! ## What a window step can do -/

/-- The outcomes of a window: each with what selects it and the state it leaves. -/
inductive WindowOutcome (s : State) : State → Prop
  | eosFinalize (he : eosAt s.p = true) :
    WindowOutcome s { mergeFile (emit (.fileSummary (fileSummary s)) s) with phase := .idle }
  | aFiller (he : eosAt s.p = false) (hs : syncHere s = true) (ha : s.alignment = .aligned) :
    WindowOutcome s (advanceFrame s.p (countFiller s))
  | uSync (he : eosAt s.p = false) (hs : syncHere s = true) (ha : s.alignment = .unaligned) :
    WindowOutcome s (advanceFrame s.p { countFiller s with alignment := .aligned })
  | aDataError (he : eosAt s.p = false) (hs : syncHere s = false) (ha : s.alignment = .aligned)
      (hf : errorFlagOf s.frame = true) :
    WindowOutcome s (advanceFrame s.p (emit (.errorRecord (errorRecordOf s.decoded (checksumOf s.frame)))
      (countAlignedError (route s.decoded.channel) (reported true false s))))
  | aLossCrc (he : eosAt s.p = false) (hs : syncHere s = false) (ha : s.alignment = .aligned)
      (hf : errorFlagOf s.frame = false) (hc : crcOkOf s.frame = false) :
    WindowOutcome s (resumeAfterLoss { countAlignmentLoss (reported false false s) with alignment := .unaligned })
  | aLossChannel (he : eosAt s.p = false) (hs : syncHere s = false) (ha : s.alignment = .aligned)
      (hf : errorFlagOf s.frame = false) (hc : crcOkOf s.frame = true) (hv : channelValid s.decoded.channel = false) :
    WindowOutcome s (resumeAfterLoss { countAlignmentLoss (reported false true s) with alignment := .unaligned })
  | aDataOk (he : eosAt s.p = false) (hs : syncHere s = false) (ha : s.alignment = .aligned)
      (hf : errorFlagOf s.frame = false) (hc : crcOkOf s.frame = true) (hv : channelValid s.decoded.channel = true) :
    WindowOutcome s (advanceFrame s.p (countAlignedOk s.decoded.channel s))
  | uDrError (he : eosAt s.p = false) (hs : syncHere s = false) (ha : s.alignment = .unaligned)
      (hr : residueHere s = true) (hf : errorFlagOf s.frame = true)
      (hk : (clamp s.config (tentativeChannel s.frame)).toNat < numBuckets) :
    WindowOutcome s (slideWord s.p (countNotAlignedError (clamp s.config (tentativeChannel s.frame)) s))
  | uDrOk (he : eosAt s.p = false) (hs : syncHere s = false) (ha : s.alignment = .unaligned)
      (hr : residueHere s = true) (hf : errorFlagOf s.frame = false)
      (hk : (clamp s.config (tentativeChannel s.frame)).toNat < numBuckets) :
    WindowOutcome s (slideWord s.p (countNotAlignedOk (clamp s.config (tentativeChannel s.frame)) s))
  | uSkip (he : eosAt s.p = false) (hs : syncHere s = false) (ha : s.alignment = .unaligned)
      (hr : residueHere s = false) : WindowOutcome s (slideWord s.p s)

theorem execALossChannel_reported {s : State} (hv : channelValid s.decoded.channel = false) : execALossChannel s =
    .next (resumeAfterLoss { countAlignmentLoss (reported false true s) with alignment := .unaligned }) := by
  rw [execALossChannel_eq]; simp only [reported, hv, Bool.false_eq_true, if_false]

/-- The inversion of a window step: where the selected operation answers a next state, it is one of the outcomes. -/
theorem window_outcome {s t : State} (h : exec (selectedOp s) s = .next t) : WindowOutcome s t := by
  rw [selectedOp_tree] at h
  cases he : eosAt s.p with
  | true =>
    simp only [he, if_true, exec, execEosFinalize_eq, Host.Outcome.next.injEq] at h
    subst h; exact .eosFinalize he
  | false =>
    cases hs : syncHere s with
    | true =>
      cases ha : s.alignment <;>
        simp only [he, hs, ha, alignedBit, if_true, if_false, Bool.false_eq_true, exec, execUSync_eq, execAFiller_eq,
          Host.Outcome.next.injEq] at h <;> subst h
      · exact .uSync he hs ha
      · exact .aFiller he hs ha
    | false =>
      cases ha : s.alignment with
      | unaligned =>
        cases hr : residueHere s with
        | false =>
          simp only [he, hs, ha, hr, alignedBit, if_false, Bool.false_eq_true, exec, execUSkip_eq,
            Host.Outcome.next.injEq] at h
          subst h; exact .uSkip he hs ha hr
        | true =>
          cases hf : errorFlagOf s.frame <;>
            simp only [he, hs, ha, hr, hf, alignedBit, if_true, if_false, Bool.false_eq_true, exec, execUDrOk_eq,
              execUDrError_eq, andThen_eq_next, withBucket_eq_next] at h <;>
            obtain ⟨u, ⟨hk, rfl⟩, h⟩ := h <;> rw [Host.Outcome.next.injEq] at h <;> subst h
          · exact .uDrOk he hs ha hr hf hk
          · exact .uDrError he hs ha hr hf hk
      | aligned =>
        cases hf : errorFlagOf s.frame with
        | true =>
          simp only [he, hs, ha, hf, alignedBit, if_true, if_false, Bool.false_eq_true, exec, execADataError_eq,
            Host.Outcome.next.injEq] at h
          subst h; exact .aDataError he hs ha hf
        | false =>
          cases hc : crcOkOf s.frame with
          | false =>
            simp only [he, hs, ha, hf, hc, alignedBit, if_true, if_false, Bool.false_eq_true, exec, execALossCrc_eq,
              Host.Outcome.next.injEq] at h
            subst h; exact .aLossCrc he hs ha hf hc
          | true =>
            cases hv : channelValid s.decoded.channel with
            | true =>
              simp only [he, hs, ha, hf, hc, hv, alignedBit, if_true, if_false, Bool.false_eq_true, exec,
                execADataOk_eq, andThen_eq_next, withBucket_eq_next] at h
              obtain ⟨u, ⟨-, rfl⟩, h⟩ := h
              rw [Host.Outcome.next.injEq] at h
              subst h; exact .aDataOk he hs ha hf hc hv
            | false =>
              simp only [he, hs, ha, hf, hc, hv, alignedBit, if_true, if_false, Bool.false_eq_true, exec,
                execALossChannel_reported hv, Host.Outcome.next.injEq] at h
              subst h; exact .aLossChannel he hs ha hf hc hv

/-- The evaluation of `acc` does not touch what selects the operation. -/
theorem selectedOp_evaluateWindow (s : State) : selectedOp (evaluateWindow s) = selectedOp s := by
  obtain ⟨a, h⟩ := evaluateWindow_eq s
  rw [h]; rfl

/-- A running step where only host commands wait: one of the outcomes, from the evaluated state. -/
theorem step_running_outcome {s t : State} (hh : HostOnly s) (hr : s.phase = .running) (h : step s = .next t) :
    WindowOutcome (evaluateWindow s) t := by
  unfold step at h
  rw [fetch_running hh hr] at h
  exact window_outcome (by rw [selectedOp_evaluateWindow]; exact h)

/-- An idle step where only host commands wait: nothing, or one of the three commands. -/
theorem step_idle_outcome {s t : State} (hh : HostOnly s) (hi : s.phase = .idle) (h : step s = .next t) :
    (s.inbox = [] ∧ t = s) ∨ ∃ code raw rest, s.inbox = .host2 code raw :: rest ∧
      (exec .hostReset { s with inbox := rest } = .next t ∨
        exec (.hostRunBuffer raw) { s with inbox := rest } = .next t ∨
        exec .hostReadRun { s with inbox := rest } = .next t) := by
  unfold step fetch at h
  cases hx : s.inbox with
  | nil => simp only [hx, fetchWindow, hi, Host.Outcome.next.injEq] at h; exact .inl ⟨rfl, h.symm⟩
  | cons ow rest =>
    have hw : ow.isHost = true := hh ow (by simp [hx])
    cases ow <;> simp only [OpWord.isHost, Bool.false_eq_true] at hw
    rename_i code raw
    refine .inr ⟨code, raw, rest, rfl, ?_⟩
    simp only [hx, OpWord.isHost, hi, fetchWord, decode] at h
    have hd : decodeHost code raw = .ok .hostReset ∨ decodeHost code raw = .ok (.hostRunBuffer raw) ∨
        decodeHost code raw = .ok .hostReadRun ∨ decodeHost code raw = .error .reservedHostCommand := by
      unfold decodeHost; split <;> simp
    simp only [hi]
    rcases hd with hd | hd | hd | hd <;> simp only [hd] at h
    · exact .inl h
    · exact .inr (.inl h)
    · exact .inr (.inr h)
    · exact absurd h (by simp)

end Sys2Proof.Machine
end

