-- ==== Sys2Proof/Laws/Transaction.lean ====
section
/-!
SUPPORT. Runs of more than one step: what one step does to `drain` and to the host's own run, so that no proof unfolds
them.
-/

namespace Sys2Proof.Machine

/-- The bound of one buffer as a successor, with no evaluation of the numeral (R136). -/
theorem maxSteps_eq : maxSteps = 49993 + 1 := rfl

/-- While RUNNING with only host commands waiting, STEP is the machine's own step. -/
theorem windowStep_eq_step {s : State} (hh : HostOnly s) (hr : s.phase = .running) : windowStep s = step s := by
  unfold step
  rw [fetch_running hh hr]
  rfl

/-- A drain from an IDLE state is over. -/
theorem drain_idle {s : State} (n : Nat) (hi : s.phase = .idle) : drain n s = .next s := by
  cases n with
  | zero => rfl
  | succ n =>
    change (match s.phase with
      | .idle => (Host.Outcome.next s : Result)
      | .running => andThen (windowStep s) (drain n)) = _
    rw [hi]

/-- A drain from a RUNNING state makes one step and goes on from where it leads. -/
theorem drain_running {s t : State} (n : Nat) (hh : HostOnly s) (hr : s.phase = .running) (h : step s = .next t) :
    drain (n + 1) s = drain n t := by
  change (match s.phase with
    | .idle => (Host.Outcome.next s : Result)
    | .running => andThen (windowStep s) (drain n)) = _
  rw [hr, windowStep_eq_step hh hr, h]
  rfl

/-- The host's run makes one step and goes on from where it leads. -/
theorem core_run_next {s t : State} (n : Nat) (h : step s = .next t) :
    Host.Core.run Sys2Proof.core (n + 1) s = Host.Core.run Sys2Proof.core n t := by
  have hc : Sys2Proof.core.step s = .next t := h
  simp only [Host.Core.run, hc]

end Sys2Proof.Machine
end

