-- ==== Sys2Proof/Tests/Slice0.lean ====
section
/-!
SUPPORT. Tests. Expected values come from spec/: a vector's name (V-..., L1-...) stands in spec/95_test_vectors.md, an
"example of R<n>" in that rule. Then one witness for each statement with hypotheses: a concrete state and operands that
meet them.
-/

namespace Sys2Proof.Tests

open Sys2Proof.Machine

/-! ## Small states -/

/-- SYNC_T, the test pattern of 95_test_vectors.md section 1.1. -/
def syncT : Frame := 0x5A5A5A505A5A5A515A5A5A525A5A5A535A5A5A545A5A5A555A5A5A565A5A5A57#256

/-- The default configuration with SYNC_T (section 1.3). -/
def configT : Config :=
  { syncPattern := syncT, layout := Layout.standard, drResidue := 1, drClamp := 8, lossResume := .slide }

/-- A block just built, IDLE. -/
def idle : State := { State.reset with config := configT }

/-- A block that drains a raw read and stands at position `p`. -/
def draining (a : Machine.Alignment) (p : Nat) (raw : List Word) : State :=
  { idle with
    phase := .running
    alignment := a
    p := BitVec.ofNat 16 p
    buffer := loadBuffer raw
    window := windowAt (loadBuffer raw) p }

/-- The eight words of SYNC_T. -/
def syncWords : List Word :=
  [0x5A5A5A50#32, 0x5A5A5A51#32, 0x5A5A5A52#32, 0x5A5A5A53#32, 0x5A5A5A54#32, 0x5A5A5A55#32, 0x5A5A5A56#32, 0x5A5A5A57#32]

/-- The words of a bare frame: its leading word and its trailer, the six between them 0. -/
def bareWords (w0 w7 : Word) : List Word := [w0, 0#32, 0#32, 0#32, 0#32, 0#32, 0#32, w7]

/-- ALIGNED at p = 8 of `RUN { SYNC <frame> }`. -/
def afterSync (frame : List Word) : State := draining .aligned 8 (syncWords ++ frame)

/-- A condition on the state a step leads to; false where it leads to none. -/
def leads (o : Result) (check : State → Bool) : Bool :=
  match nextState? o with
  | some t => check t
  | none => false

/-- Does a step fault? -/
def faults : Result → Bool
  | .fault _ => true
  | .next _ => false
  | .refused _ => false

/-- Is a step refused? -/
def refuses : Result → Bool
  | .refused _ => true
  | .next _ => false
  | .fault _ => false

/-- Where a check of the next state succeeds there is a next state. -/
theorem next_of_leads {o : Result} {check : State → Bool} (h : leads o check = true) : ∃ t, o = .next t := by
  cases o with
  | next t => exact ⟨t, rfl⟩
  | fault r => cases h
  | refused r => cases h

/-! ## Well-formedness: an ill-formed term for each check -/

theorem test_wellFormed_refuses_oversize_asmLoad : WellFormed (.asmLoad (List.replicate 50001 0#32)) = false := by
  simp only [WellFormed, legalRead, List.length_replicate]; decide
theorem test_wellFormed_refuses_oversize_run : WellFormed (.hostRunBuffer (List.replicate 50001 0#32)) = false := by
  simp only [WellFormed, legalRead, List.length_replicate]; decide
theorem test_wellFormed_accepts_full_read : WellFormed (.hostRunBuffer (List.replicate 50000 0#32)) = true := by
  simp only [WellFormed, legalRead, List.length_replicate]; decide
theorem test_wellFormed_refuses_bucket_11 :
    WellFormed (.recAlignedOk 11#4) = false ∧ WellFormed (.recAlignedError 11#4) = false ∧
    WellFormed (.recNotAlignedOk 11#4) = false ∧ WellFormed (.recNotAlignedError 15#4) = false := by decide
theorem test_wellFormed_accepts_bucket_10 : WellFormed (.recAlignedOk 10#4) = true := by decide
theorem test_wellFormed_refuses_valid_badChannel : WellFormed (.badChannel 8#4 true false) = false := by decide
theorem test_wellFormed_refuses_clean_errorRecord : WellFormed (.decErrorRecord default 0#32) = false := by decide

/-! ## Decoding: words written out from R45 to R47, and operand words of the internal rows -/

theorem test_decode_eosFinalize : decode (.sel7 0b1000000#7) = .ok .eosFinalize := by decide
theorem test_decode_aFiller : decode (.sel7 0b0110000#7) = .ok .aFiller := by decide
theorem test_decode_aDataError : decode (.sel7 0b0101010#7) = .ok .aDataError := by decide
theorem test_decode_aDataOk : decode (.sel7 0b0100110#7) = .ok .aDataOk := by decide
theorem test_decode_aLossCrc : decode (.sel7 0b0100010#7) = .ok .aLossCrc := by decide
theorem test_decode_aLossChannel : decode (.sel7 0b0100100#7) = .ok .aLossChannel := by decide
theorem test_decode_uSync : decode (.sel7 0b0010000#7) = .ok .uSync := by decide
theorem test_decode_uDrOk : decode (.sel7 0b0000001#7) = .ok .uDrOk := by decide
theorem test_decode_uDrError : decode (.sel7 0b0001001#7) = .ok .uDrError := by decide
theorem test_decode_uSkip : decode (.sel7 0b0001000#7) = .ok .uSkip := by decide
theorem test_decode_recFiller : decode (.cmd8 0x10#8) = .ok .recFiller := by decide
theorem test_decode_recAlignedOk : decode (.cmd8 0x23#8) = .ok (.recAlignedOk 3#4) := by decide
theorem test_decode_recAlignedError : decode (.cmd8 0x39#8) = .ok (.recAlignedError 9#4) := by decide
theorem test_decode_recNotAlignedOk : decode (.cmd8 0x40#8) = .ok (.recNotAlignedOk 0#4) := by decide
theorem test_decode_recNotAlignedError : decode (.cmd8 0x55#8) = .ok (.recNotAlignedError 5#4) := by decide
theorem test_decode_recAlignmentLoss : decode (.cmd8 0x60#8) = .ok .recAlignmentLoss := by decide
theorem test_decode_recBadChannelId : decode (.cmd8 0x7F#8) = .ok (.recBadChannelId 15#4) := by decide
theorem test_decode_finalizeFile : decode (.cmd8 0x80#8) = .ok .finalizeFile := by decide
theorem test_decode_clearAll : decode (.cmd8 0x90#8) = .ok .clearAll := by decide
theorem test_decode_hostReset : decode (.host2 0b00#2 []) = .ok .hostReset := by decide
theorem test_decode_hostRunBuffer : decode (.host2 0b01#2 [7#32]) = .ok (.hostRunBuffer [7#32]) := by decide
theorem test_decode_hostReadRun : decode (.host2 0b10#2 []) = .ok .hostReadRun := by decide
theorem test_decode_ckUpdate :
    decode (.internal .ckUpdate [0x5A#32, 0xFFFFFFFF#32]) = .ok (.ckUpdate 0x5A#8 0xFFFFFFFF#32) := by decide
theorem test_decode_ckCompute :
    decode (.internal .ckCompute [1#32, 0#32, 0#32, 0#32, 0#32, 0#32, 0#32, 2#32]) =
      .ok (.ckCompute (0x1#32 ++ 0#192 ++ 2#32)) := by decide
theorem test_decode_ckVerify :
    decode (.internal .ckVerify [0#32, 0#32, 0#32, 0#32, 0#32, 0#32, 0#32, 0x7F8F8816#32]) =
      .ok (.ckVerify 0x7F8F8816#256) := by decide
theorem test_decode_asmLoad :
    decode (.internal .asmLoad [1#32, 2#32, 3#32]) = .ok (.asmLoad [1#32, 2#32, 3#32]) := by decide
theorem test_decode_asmEos : decode (.internal .asmEos [0xC349#32]) = .ok (.asmEos 49993#16) := by decide
theorem test_decode_asmNextFrame : decode (.internal .asmNextFrame [8#32]) = .ok (.asmNextFrame 8#16) := by decide
theorem test_decode_asmSlide : decode (.internal .asmSlide [3#32]) = .ok (.asmSlide 3#16) := by decide
theorem test_decode_badChannel :
    decode (.internal .badChannel [12#32, 0#32, 1#32]) = .ok (.badChannel 12#4 false true) := by decide
theorem test_decode_decExtract :
    decode (.internal .decExtract (bareWords 0x83000000#32 0#32)) = .ok (.decExtract (0x83000000#32 ++ 0#224)) := by
  decide
theorem test_decode_decClassify :
    decode (.internal .decClassify [1#32, 9#32, 0#32, 3#32, 0#32, 0#32, 0#32, 0#32, 0#32, 0#32, 0#32, 9#32]) =
      .ok (.decClassify { (default : Decoded) with channel := 3#4, embeddedCrc := 9#32 } true 9#32) := by decide
theorem test_decode_decErrorRecord :
    decode (.internal .decErrorRecord [5#32, 1#32, 3#32, 0#32, 0#32, 0#32, 0#32, 0#32, 1#32, 2#32, 7#32]) =
      .ok (.decErrorRecord { (default : Decoded) with
        errorFlag := true, channel := 3#4, runningErrorCounter := 0x100000002#44, embeddedCrc := 7#32 } 5#32) := by decide

/-- V-ST-15, 16, 18, 19 and V-HOST-4: the illegal words are rejected, each by its name. -/
theorem test_decode_rejects :
    decode (.cmd8 0x00#8) = .error .badStatsCommand ∧ decode (.cmd8 0x11#8) = .error .badStatsCommand ∧
    decode (.cmd8 0x81#8) = .error .badStatsCommand ∧ decode (.cmd8 0x91#8) = .error .badStatsCommand ∧
    decode (.cmd8 0x61#8) = .error .badStatsCommand ∧ decode (.cmd8 0xA0#8) = .error .badStatsCommand ∧
    decode (.cmd8 0xF5#8) = .error .badStatsCommand ∧ decode (.host2 3#2 []) = .error .reservedHostCommand ∧
    decode (.internal .asmEos [0x10000#32]) = .error .malformedOperation := by decide

/-- Words named by their number of bits: a host code, a selector, a command, and a byte of each. -/
theorem test_tableWord :
    decodeTableWord 2 2 = some .hostReadRun ∧ decodeTableWord 7 0x30 = some .aFiller ∧
    decodeTableWord 8 0x28 = some .aDataError ∧ decodeTableWord 8 0x23 = some (.recAlignedOk 3#4) ∧
    decodeTableWord 8 0xA0 = none := by decide

/-! ## checksum_verifier, with the test instantiation CRC_UPDATE_T (section 1.2) -/

/-- One bit of CRC_UPDATE_T. -/
def crcBit (a : Word) : Word := if a.getLsbD 0 then (a >>> 1) ^^^ 0xEDB88320#32 else a >>> 1

/-- CRC_UPDATE_T: for the tests only, not the hardware's function. -/
def crcUpdateT (b : Byte) (acc : Word) : Word :=
  (List.range 8).foldl (fun a _ => crcBit a) (acc ^^^ b.setWidth 32)

/-- CK_COMPUTE under CRC_UPDATE_T. -/
def computeT (f : Frame) : Word := foldBytes crcUpdateT crcSeed (payloadBytes f)

/-- The frame of V-DEC-2. -/
def frameDec2 : Frame :=
  0x852468ACF697FFFFFF80000018000001FFFFFFFFFFE000000000000000000000#256

/-- The frame of V-DEC-3. -/
def frameDec3 : Frame :=
  0x8300000C801C055E6F00ABCDF000003E0000000607200000000000007B07BB92#256

/-- V-CK-1, 2, 3, 5, 6, 7. -/
theorem test_ckUpdate_vectors :
    crcUpdateT 0x00#8 0#32 = 0#32 ∧ crcUpdateT 0x00#8 0xFFFFFFFF#32 = 0x2DFD1072#32 ∧
    crcUpdateT 0xFF#8 0xFFFFFFFF#32 = 0x00FFFFFF#32 ∧ crcUpdateT 0x5A#8 0xFFFFFFFF#32 = 0xA643A898#32 ∧
    crcUpdateT 0x01#8 0#32 = 0x77073096#32 ∧ crcUpdateT 0x80#8 0#32 = 0xEDB88320#32 := by decide
/-- V-CK-9, V-CK-10: the fold takes byte 0 first. -/
theorem test_ckCompute_fold_order :
    foldBytes crcUpdateT crcSeed ((List.range 28).map (BitVec.ofNat 8)) = 0x28F7F7A2#32 ∧
    foldBytes crcUpdateT crcSeed ((List.range 14).map (BitVec.ofNat 8)) = 0x9610A937#32 := by decide +kernel
/-- V-CK-4, V-CK-17, V-CK-13: the payload of a frame. -/
theorem test_ckCompute_payload :
    computeT 0#256 = 0x7F8F8816#32 ∧ computeT frameDec2 = 0x08710685#32 ∧ computeT syncT = 0xBFD76F6F#32 := by
  decide +kernel
/-- R28: byte 0 of V-DEC-2 is 0x85, byte 3 is 0xAC, byte 27 is 0. -/
theorem test_payload_byte_order :
    payloadByte frameDec2 0 = 0x85#8 ∧ payloadByte frameDec2 3 = 0xAC#8 ∧ payloadByte frameDec2 27 = 0#8 := by decide
/-- R54: a trailer that is the checksum of its payload verifies, and the same frame with another trailer does not
(V-CK-14 and V-CK-15 for any CRC_UPDATE). -/
theorem test_ckVerify (x : BitVec 224) : crcOkOf (x ++ checksumOf (x ++ 0#32)) = true ∧
    crcOkOf (x ++ (checksumOf (x ++ 0#32) ^^^ 1#32)) = false := by
  rw [crcOkOf_append, crcOkOf_append]
  refine ⟨by simp, ?_⟩
  rw [decide_eq_false_iff_not]
  intro h
  simpa using congrArg (fun v => v.getLsbD 0) h

/-! ## frame_assembler -/

/-- V-ASM-1. -/
theorem test_asmLoad : leads (exec (.asmLoad [1#32, 2#32, 3#32]) { idle with alignment := .aligned }) (fun t =>
    (List.range 5).map (bufferRead t.buffer) == [1#33, 2#33, 3#33, 0#33, 0#33] &&
      bufferRead t.buffer 49999 == 0#33 && bufferRead t.buffer 50000 == 0x100000000#33 && t.p == 0#16 &&
      t.window == ⟨1#32, 2#32, 3#32, 0#32, 0#32, 0#32, 0#32, 0#32⟩ && t.alignment == .aligned) = true := by decide
/-- V-ASM-4. -/
theorem test_asmLoad_oversize (s : State) :
    exec (.asmLoad (List.replicate 50001 0#32)) s = .refused .oversizeRead := by
  simp only [exec, execAsmLoad, List.length_replicate, bufWords]; rfl
/-- V-ASM-5 to 8. -/
theorem test_asmEos :
    eosAt 0#16 = false ∧ eosAt 49992#16 = false ∧ eosAt 49993#16 = true ∧ eosAt 50000#16 = true := by decide
/-- V-ASM-9. -/
theorem test_asmNextFrame : leads (exec (.asmNextFrame 8#16) (afterSync (bareWords 1#32 2#32 ++ bareWords 3#32 4#32)))
    (fun t => t.p == 16#16 && t.window == ⟨3#32, 0#32, 0#32, 0#32, 0#32, 0#32, 0#32, 4#32⟩) = true := by decide
/-- V-ASM-10: the window is not loaded. -/
theorem test_asmNextFrame_end : leads (exec (.asmNextFrame 49992#16) (draining .aligned 0 syncWords))
    (fun t => t.p == 50000#16 && frameOfWindow t.window == syncT) = true := by decide
/-- V-ASM-11. -/
theorem test_asmSlide : leads (exec (.asmSlide 3#16) (draining .unaligned 3 ((List.range 20).map (BitVec.ofNat 32))))
    (fun t => t.p == 4#16 && t.window == ⟨4#32, 5#32, 6#32, 7#32, 8#32, 9#32, 10#32, 11#32⟩) = true := by decide
/-- V-ASM-12: the window is not updated. -/
theorem test_asmSlide_end : leads (exec (.asmSlide 49992#16) (draining .unaligned 0 [9#32]))
    (fun t => t.p == 49993#16 && t.window == ⟨9#32, 0#32, 0#32, 0#32, 0#32, 0#32, 0#32, 0#32⟩) = true := by decide

/-! ## frame_sync_fsm -/

/-- V-FSM-1. -/
theorem test_eosFinalize : leads (step (draining .aligned 49993 [])) (fun t =>
    t.phase == .idle && t.alignment == .aligned && t.buffersProcessed == 1#64 && t.out.map Event.kind == [3]) =
    true := by decide
/-- V-FSM-2. -/
theorem test_aFiller : leads (step (afterSync syncWords)) (fun t =>
    t.file.fillerFrames == 1#32 && t.p == 16#16 && t.alignment == .aligned && t.out.isEmpty) = true := by decide
/-- V-FSM-3, V-FSM-5: the window of `CLEAN ch=8`. -/
theorem test_aDataOk : leads (exec .aDataOk (afterSync (bareWords 0x08000000#32 0x722060FE#32))) (fun t =>
    t.file.alignedOk == 1#32 && t.fchan[8].alignedOk == 1#32 && t.p == 16#16 && t.alignment == .aligned &&
      t.out.isEmpty) = true := by decide
/-- L1-6, first row: one warning before the record, bucket 9, still ALIGNED. -/
theorem test_aDataError : leads (exec .aDataError (afterSync (bareWords 0x8F000000#32 0xACD71D2C#32))) (fun t =>
    t.file.alignedError == 1#32 && t.fchan[9].alignedError == 1#32 && t.file.badChannelIdEvents == 1#32 &&
      t.out.map Event.kind == [2, 1] && t.out.head? == some (.badChannel ⟨15#4, true, false, 8#16⟩) && t.p == 16#16 &&
      t.alignment == .aligned) = true := by decide
/-- V-FSM-9. -/
theorem test_aLossCrc : leads (exec .aLossCrc (afterSync (bareWords 0x0C000000#32 0x74F7948B#32))) (fun t =>
    t.file.alignmentLossEvents == 1#32 && t.fchan[9].alignedError == 1#32 && t.file.alignedError == 0#32 &&
      t.out == [.badChannel ⟨12#4, false, false, 8#16⟩] && t.p == 9#16 && t.alignment == .unaligned) = true := by decide
/-- V-FSM-23: LOSS_RESUME = SKIP. -/
theorem test_aLossCrc_skip : leads (exec .aLossCrc { afterSync (bareWords 0x03000000#32 0x7D518F30#32) with
    config := { configT with lossResume := .skip } }) (fun t => t.p == 16#16 && t.out.isEmpty) = true := by decide
/-- V-FSM-6. -/
theorem test_aLossChannel : leads (exec .aLossChannel (afterSync (bareWords 0x09000000#32 0x73959DE3#32))) (fun t =>
    t.file.alignmentLossEvents == 1#32 && t.file.badChannelIdEvents == 1#32 && t.fchan[9].alignedError == 1#32 &&
      t.out == [.badChannel ⟨9#4, false, true, 8#16⟩] && t.p == 9#16 && t.alignment == .unaligned) = true := by decide
/-- V-FSM-18. -/
theorem test_uSync : leads (step (draining .unaligned 5 ([0#32, 0#32, 0#32, 0#32, 0#32] ++ syncWords))) (fun t =>
    t.file.fillerFrames == 1#32 && t.alignment == .aligned && t.p == 13#16) = true := by decide
/-- V-FSM-17: no dead-reckoning count, although p mod 8 = 1. -/
theorem test_uSync_residue : leads (step (draining .unaligned 1 ([0#32] ++ syncWords))) (fun t =>
    t.file.fillerFrames == 1#32 && t.file.notAlignedOk == 0#32 && t.p == 9#16) = true := by decide
/-- V-FSM-12. -/
theorem test_uDrOk : leads (step (draining .unaligned 1 [0#32, 0x0F000000#32])) (fun t =>
    t.file.notAlignedOk == 1#32 && t.fchan[8].notAlignedOk == 1#32 && t.out.isEmpty && t.p == 2#16) = true := by decide
/-- V-FSM-13. -/
theorem test_uDrError : leads (step (draining .unaligned 1 [0#32, 0x85000000#32])) (fun t =>
    t.file.notAlignedError == 1#32 && t.fchan[5].notAlignedError == 1#32 && t.p == 2#16) = true := by decide
/-- V-FSM-14. -/
theorem test_uDrError_clamped : leads (step (draining .unaligned 1 [0#32, 0x8C000000#32])) (fun t =>
    t.fchan[8].notAlignedError == 1#32) = true := by decide
/-- 90_conflicts.md C9 with R116 (4): under DR_CLAMP = 10 the observation is counted and bucket 10 stays as it is. -/
theorem test_uDrError_clamp_ten (s : State) (h : s.config.drClamp = 10) : ∃ t, exec .uDrError s = .next t ∧
    t.file.notAlignedError = s.file.notAlignedError + 1#32 ∧ t.fchan[10] = s.fchan[10] := by
  have hk := clamp_cases (show s.config.drClamp ≤ 10 by omega) (tentativeChannel s.frame)
  refine ⟨slideWord s.p (countNotAlignedError (clamp s.config (tentativeChannel s.frame)) s),
    (execUDrError_eq s).trans ?_, ?_⟩
  · rw [withBucket_of_legal (clamp_legal (by omega) _)]; rfl
  · exact ⟨rfl, getElem_updateBucket_ne _ _ (by decide) (by omega)⟩
/-- V-FSM-15. -/
theorem test_uSkip : leads (step (draining .unaligned 2 [0#32, 0#32, 0x85000000#32])) (fun t =>
    t.file == Counters.zero 32 && t.p == 3#16) = true := by decide
/-- R64: the report of an error frame carries `crc_ok` 0. -/
theorem test_badChannel : leads (exec (.badChannel 12#4 true true) (draining .aligned 16 [])) (fun t =>
    t.file.badChannelIdEvents == 1#32 && t.out == [.badChannel ⟨12#4, true, false, 16#16⟩]) = true := by decide
/-- The rows of R45 and the selectors of V-FSM-3, 6, 8, 9, 10, 11. -/
theorem test_selector_rows :
    [0x26#7, 0x24#7, 0x22#7, 0x20#7, 0x2A#7, 0x2C#7, 0x60#7, 0x08#7].map decodeSel =
      [.aDataOk, .aLossChannel, .aLossCrc, .aLossCrc, .aDataError, .aDataError, .eosFinalize, .uSkip] := by decide

/-! ## frame_decoder -/

/-- V-DEC-2. -/
theorem test_decExtract : extractFields Layout.standard frameDec2 =
    { errorFlag := true, channel := 5#4, timestamp := 0x1234567#27, injectedError := 0x5A5#11,
      expectedCode := 0x7FFFFFF#27, receivedCode := 0x1#27, errorPosition := 0x4000000#27,
      runningErrorCounter := 0xFFFFFFFFFFF#44, embeddedCrc := 0#32 } := by decide
/-- V-DEC-3, also as the stimulus line it is. -/
theorem test_decExtract_stimulus :
    packFrame true { ch := 3#4, ts := 100#27, inj := 7#11, exp := 0xABCDE#27, rcv := 0xABCDF#27, pos := 0x1F#27,
                     run := 12345#44 } 0x7B07BB92#32 = frameDec3 ∧
    (extractFields Layout.standard frameDec3).runningErrorCounter = 12345#44 := by decide
/-- V-DEC-5 to 8. -/
theorem test_decClassify_clean :
    classify { (default : Decoded) with channel := 3#4 } true 0#32 = .dataOk 3#4 true ∧
    classify { (default : Decoded) with channel := 3#4 } false 0#32 = .loss .crc 3#4 ∧
    classify { (default : Decoded) with channel := 9#4 } true 0#32 = .loss .channel 9#4 ∧
    classify { (default : Decoded) with channel := 9#4 } false 0#32 = .loss .crc 9#4 := by decide
/-- V-DEC-9. -/
theorem test_decClassify_error : leads
    (exec (.decClassify { (default : Decoded) with errorFlag := true, channel := 15#4 } true 1#32) idle) (fun t =>
      t.result == .tag (.dataError { (default : DataErrorFields) with channel := 15#4, computedCrc := 1#32 })) =
    true := by decide
/-- Example of R80. -/
theorem test_decErrorRecord : leads (exec (.decErrorRecord
      { (default : Decoded) with errorFlag := true, channel := 3#4, embeddedCrc := 7#32 } 5#32) idle) (fun t =>
    t.result == .record { (default : ErrorRecord) with
      channel := 3#4, checksumDelta := BitVec.ofInt 33 (-2), embeddedCrc := 7#32, computedCrc := 5#32 }) =
    true := by decide
/-- V-DEC-12 to 15. -/
theorem test_delta :
    (delta 0xFFFFFFFF#32 0#32).toInt = 4294967295 ∧ delta 0#32 0xFFFFFFFF#32 = 0x100000001#33 ∧
    (delta 0x80000000#32 0x7FFFFFFF#32).toInt = 1 ∧ (delta 5#32 7#32).toInt = -2 := by decide

/-! ## statistics_counter_array -/

/-- V-ST-1. -/
theorem test_recFiller : leads (exec .recFiller idle) (fun t => t.file.fillerFrames == 1#32) = true := by decide
/-- V-ST-2. -/
theorem test_recAlignedOk : leads (exec (.recAlignedOk 3#4) idle) (fun t =>
    t.file.alignedOk == 1#32 && t.fchan[3].alignedOk == 1#32) = true := by decide
/-- V-ST-9, V-ST-17: bucket 10 is legal, 11 faults. -/
theorem test_recAlignedOk_edge :
    leads (exec (.recAlignedOk 10#4) idle) (fun t => t.fchan[10].alignedOk == 1#32) = true ∧
    faults (exec (.recAlignedOk 11#4) idle) = true := by decide
/-- V-ST-3. -/
theorem test_recAlignedError : leads (exec (.recAlignedError 9#4) idle) (fun t =>
    t.file.alignedError == 1#32 && t.fchan[9].alignedError == 1#32) = true := by decide
/-- V-ST-4. -/
theorem test_recNotAlignedOk : leads (exec (.recNotAlignedOk 0#4) idle) (fun t =>
    t.file.notAlignedOk == 1#32 && t.fchan[0].notAlignedOk == 1#32) = true := by decide
/-- V-ST-5. -/
theorem test_recNotAlignedError : leads (exec (.recNotAlignedError 5#4) idle) (fun t =>
    t.file.notAlignedError == 1#32 && t.fchan[5].notAlignedError == 1#32) = true := by decide
/-- V-ST-6. -/
theorem test_recAlignmentLoss : leads (exec .recAlignmentLoss idle) (fun t =>
    t.file.alignmentLossEvents == 1#32 && t.fchan[9].alignedError == 1#32 && t.file.alignedError == 0#32) = true := by
  decide
/-- V-ST-7. -/
theorem test_recBadChannelId : leads (exec (.recBadChannelId 15#4) idle) (fun t =>
    t.file.badChannelIdEvents == 1#32 && t.fchan == Channels.zero 32) = true := by decide
/-- V-ST-12, V-ST-13: the flag of filler alone, and of one error. -/
theorem test_finalizeFile :
    leads (exec .finalizeFile { idle with file := { Counters.zero 32 with fillerFrames := 5#32 } }) (fun t =>
      t.out == [.fileSummary ⟨0#64, { Counters.zero 32 with fillerFrames := 5#32 }, true, 5#32, Channels.zero 32⟩] &&
        t.run.fillerFrames == 5#64 && t.file.fillerFrames == 0#32 && t.buffersProcessed == 1#64) = true ∧
    isAllFiller { Counters.zero 32 with alignedError := 1#32 } = false := by decide
/-- V-ST-14: after one buffer everything is cleared. -/
theorem test_clearAll : leads (exec .clearAll { idle with buffersProcessed := 3#64, run := ⟨1, 1, 1, 1, 1, 1, 1⟩ })
    (fun t => t.run == Counters.zero 64 && t.buffersProcessed == 0#64 && t.out.isEmpty) = true := by decide
/-- V-ST-15, 16, 18, 19 through the command interface. -/
theorem test_stats_faults :
    ([(0#4, 0#4), (1#4, 1#4), (6#4, 1#4), (8#4, 1#4), (9#4, 1#4), (10#4, 0#4), (15#4, 5#4)].map fun c =>
      faults (stats c.1 c.2 idle)) = List.replicate 7 true := by decide

/-! ## Host commands -/

/-- V-HOST-5: RESET clears the carried alignment. -/
theorem test_hostReset : leads (exec .hostReset { idle with alignment := .aligned, buffersProcessed := 4#64 }) (fun t =>
    t.alignment == .unaligned && t.buffersProcessed == 0#64 && t.p == 0#16 && t.phase == .idle && t.out.isEmpty) =
    true := by decide
/-- R98: the command loads its buffer, keeps `aligned` and runs. -/
theorem test_hostRunBuffer : leads (exec (.hostRunBuffer [7#32]) { idle with alignment := .aligned }) (fun t =>
    t.phase == .running && t.alignment == .aligned && t.p == 0#16 && t.window.w0 == 7#32) = true := by decide
/-- V-HOST-3. -/
theorem test_hostRunBuffer_oversize (s : State) :
    exec (.hostRunBuffer (List.replicate 50001 0#32)) s = .refused .oversizeRead := by
  simp only [exec, execHostRunBuffer, List.length_replicate, bufWords]; rfl
/-- V-HOST-1: all 54 fields 0. -/
theorem test_hostReadRun : leads (exec .hostReadRun idle) (fun t =>
    match t.out with
    | [.runSummary r] => (List.range 54).all fun i => readout r i == some 0#64
    | _ => false) = true := by decide
/-- V-HOST-4: host code 3 is refused. -/
theorem test_reserved_host_code : refuses (step { idle with inbox := [.host2 3#2 []] }) = true := by decide
/-- V-EXC-5 and the bounds of R116. -/
theorem test_configs :
    refuses (instantiate { configT with syncPattern := 0#256 }) = true ∧
    refuses (instantiate { configT with drResidue := 8 }) = true ∧
    refuses (instantiate { configT with drClamp := 11 }) = true ∧
    refuses (instantiate { configT with layout := { Layout.standard with timestamp := 222 } }) = true ∧
    refuses (instantiate { configT with layout := { Layout.standard with runningErrorCounter := 31 } }) = true ∧
    leads (instantiate { configT with drClamp := 10 }) (fun t => t.config.drClamp == 10) = true := by decide

/-! ## Text (section 3.6) -/

/-- The record of V-DEC-2. -/
def recordDec2 : ErrorRecord := errorRecordOf (extractFields Layout.standard frameDec2) 0x08710685#32

/-- V-TXT-3. -/
theorem test_errorRecordLine : errorRecordLine "T" recordDec2 =
    "T 5 1445 17592186044415 141624965 19088743 07ffffff 00000001 04000000 0\n" := by decide +kernel
/-- V-TXT-1, V-TXT-2: a delta of +1, and a negative one. -/
theorem test_errorRecordLine_signs :
    errorRecordLine "T" (errorRecordOf (extractFields Layout.standard frameDec3) 0x7B07BB93#32) =
      "T 3 7 12345 1 100 000abcde 000abcdf 0000001f 2064104338\n" ∧
    errorRecordLine "T" { (default : ErrorRecord) with
      channel := 2#4, injectedError := 5#11, runningErrorCounter := 77#44,
      checksumDelta := delta 0xFFD01336#32 0xFFD01337#32, embeddedCrc := 0xFFD01337#32 } =
      "T 2 5 77 -1 0 00000000 00000000 00000000 4291826487\n" := by decide +kernel
/-- V-TXT-4. -/
theorem test_fileSummaryText : fileSummaryText
    { fileIndex := 0#64, counters := { Counters.zero 32 with notAlignedOk := 6249#32 }, isAllFiller := true,
      totalFrames := 6249#32,
      channels := (Channels.zero 32).set 0 { Bucket.zero 32 with notAlignedOk := 6249#32 } } =
    "0 0 0 0 0 6249 0 0 6249\n0 0 0 6249 0\n1 0 0 0 0\n2 0 0 0 0\n3 0 0 0 0\n4 0 0 0 0\n5 0 0 0 0\n6 0 0 0 0\n" ++
      "7 0 0 0 0\n8 0 0 0 0\n9 0 0 0 0\n10 0 0 0 0\n" := by decide +kernel

/-! ## Stimulus notation (R51) -/

/-- Words of a program: V-ASM-1's read, and P2's third line. -/
theorem test_expandLine :
    expandLine syncT .sync = syncWords ∧ expandLine syncT (.times 2 (.word 5#32)) = [5#32, 5#32] ∧
    expandLine syncT (.clean { ch := 1#4 } (.value 0x7E3A750B#32)) = bareWords 0x01000000#32 0x7E3A750B#32 ∧
    expandLine syncT (.error { ch := 2#4, inj := 5#11, run := 77#44 } (.value 0xFFD01337#32)) =
      [0x82000000#32, 0x00140000#32, 0#32, 0#32, 0#32, 0x09A00000#32, 0#32, 0xFFD01337#32] := by decide

/-! ## Witnesses: for each statement with hypotheses, a state and operands that meet them -/

/-- Nothing waits, so only host commands wait. -/
theorem hostOnly_of_empty {s : State} (h : s.inbox = []) : HostOnly s := by simp [HostOnly, h]

theorem specRun_idle : SpecRun idle := ⟨hostOnly_of_empty rfl, by decide⟩

theorem specRun_draining (a : Machine.Alignment) (p : Nat) (raw : List Word) : SpecRun (draining a p raw) :=
  ⟨hostOnly_of_empty rfl, (by decide : configAccepted configT = true)⟩

/-- Zero per-file counters meet R95. -/
theorem fileSums_of_zero {s : State} (hf : s.file = Counters.zero 32) (hc : s.fchan = Channels.zero 32) :
    FileSums s := by
  constructor
  case badChannel => rw [hf]; decide
  all_goals rw [hc]
  all_goals first | (rw [hf]; decide) | decide | (intro _; decide)

/-- Zero run counters meet R95. -/
theorem runSums_of_zero {s : State} (hf : s.run = Counters.zero 64) (hc : s.rchan = Channels.zero 64) : RunSums s := by
  constructor <;> rw [hc] <;> first | (rw [hf]; decide) | decide

theorem counterInv_idle : CounterInv idle :=
  ⟨specRun_idle, fun _ => ⟨rfl, rfl⟩, fun h => (nomatch h), fun h => (nomatch h), fileSums_of_zero rfl rfl,
    runSums_of_zero rfl rfl⟩

theorem counterInv_draining {a : Machine.Alignment} {p : Nat} {raw : List Word} (hp : p ≤ 50000) :
    CounterInv (draining a p raw) := by
  refine ⟨specRun_draining a p raw, fun h => (nomatch h), fun _ => ?_, fun _ => ?_, fileSums_of_zero rfl rfl,
    runSums_of_zero rfl rfl⟩
  · simp only [draining, BitVec.toNat_ofNat, bufWords]; omega
  · exact Nat.zero_le _

theorem windowInv_draining {a : Machine.Alignment} {p : Nat} {raw : List Word} (hp : p ≤ 50000) :
    WindowInv (draining a p raw) := by
  have hn : (draining a p raw).p.toNat = p := by simp only [draining, BitVec.toNat_ofNat]; omega
  refine ⟨hostOnly_of_empty rfl, fun _ => ?_, fun _ => windowFaithful_of_eq ?_⟩
  · rw [hn]; exact hp
  · rw [hn]; rfl

theorem bufferInv_draining {a : Machine.Alignment} {p : Nat} {raw : List Word} (h : raw.length ≤ bufWords) :
    BufferInv (draining a p raw) := ⟨loadBuffer_wf h, fun _ => sentinel_loadBuffer h⟩

/-- An UNALIGNED window at the boundary position 49992, all zeros: U_DR_OK does not apply, U_SKIP does. -/
def lastWindow : State := draining .unaligned 49992 []

/-- An ALIGNED window that is an error frame of channel 15. -/
def errorWindow : State := afterSync (bareWords 0x8F000000#32 0xACD71D2C#32)

/-- An ALIGNED window that is a clean frame of channel 15: a loss, whatever the checksum. -/
def lossWindow : State := afterSync (bareWords 0x0F000000#32 0x762993AD#32)

theorem lastWindow_steps : ∃ t, step lastWindow = .next t ∧ t.alignment = .unaligned :=
  ⟨_, rfl, rfl⟩

theorem errorWindow_outcome : selectedOp errorWindow = .aDataError := by
  rw [selectedOp_tree, if_neg (by decide), if_neg (by decide), if_pos (by decide), if_pos (by decide)]

theorem errorWindow_steps : ∃ t, step errorWindow = .next t ∧ t.alignment = .aligned := by
  have h : step errorWindow = execADataError (evaluateWindow errorWindow) := by
    unfold step
    rw [fetch_running (hostOnly_of_empty rfl) rfl]
    simp only [errorWindow_outcome, exec]
  obtain ⟨a, e⟩ := evaluateWindow_eq errorWindow
  rw [h, e, execADataError_eq]
  exact ⟨_, rfl, by simp only [advanceFrame_alignment, emit_alignment, countAlignedError_alignment,
    reported_alignment]; rfl⟩

theorem lossWindow_steps : ∃ t, step lossWindow = .next t ∧ t.alignment = .unaligned := by
  have h : step lossWindow = exec (selectedOp lossWindow) (evaluateWindow lossWindow) := by
    unfold step; rw [fetch_running (hostOnly_of_empty rfl) rfl]
  have hs : selectedOp lossWindow = if crcOkOf lossWindow.frame then .aLossChannel else .aLossCrc := by
    rw [selectedOp_tree, if_neg (by decide), if_neg (by decide), if_pos (by decide), if_neg (by decide),
      if_neg (show ¬ channelValid lossWindow.decoded.channel = true by decide)]
  rw [h, hs]
  split
  · exact ⟨_, execALossChannel_eq _, by simp only [resumeAfterLoss_alignment]⟩
  · exact ⟨_, execALossCrc_eq _, by simp only [resumeAfterLoss_alignment]⟩

/-- ChecksumLaws: two frames that differ in the trailer only. -/
theorem witness_ChecksumLaws :
    (0#256).extractLsb' 32 224 = (7#256).extractLsb' 32 224 ∧ (0#256 : Frame) ≠ 7#256 := by decide

/-- ChecksumEvaluatedInAlignedNonSyncSteps: an ALIGNED error frame, and an UNALIGNED window. -/
theorem witness_ChecksumEvaluatedInAlignedNonSyncSteps :
    (∃ t, HostOnly errorWindow ∧ errorWindow.phase = .running ∧ eosAt errorWindow.p = false ∧
      step errorWindow = .next t ∧ errorWindow.alignment = .aligned ∧
      errorWindow.frame ≠ errorWindow.config.syncPattern) ∧
    ∃ t, HostOnly lastWindow ∧ lastWindow.phase = .running ∧ eosAt lastWindow.p = false ∧
      step lastWindow = .next t ∧ lastWindow.alignment = .unaligned := by
  obtain ⟨t, ht, -⟩ := errorWindow_steps
  obtain ⟨u, hu, -⟩ := lastWindow_steps
  exact ⟨⟨t, hostOnly_of_empty rfl, rfl, by decide, ht, rfl, by decide⟩,
    ⟨u, hostOnly_of_empty rfl, rfl, by decide, hu, rfl⟩⟩

/-- AsmLoadBuildsBuffer: the longest read, a short one with its bounds, and one word too many. -/
theorem witness_AsmLoadBuildsBuffer :
    (List.replicate 50000 (1#32 : Word)).length ≤ 50000 ∧ ([1#32, 2#32, 3#32] : List Word).length ≤ 50000 ∧
    49999 < 50000 ∧ 50000 < (List.replicate 50001 (1#32 : Word)).length := by
  simp only [List.length_replicate]; decide

/-- AsmNextFrameAdvances: the last window that is loaded, and the first that is not. -/
theorem witness_AsmNextFrameAdvances :
    (49984#16 + 8#16).toNat + 8 ≤ 50000 ∧ 50000 < (49985#16 + 8#16).toNat + 8 := by decide

/-- AsmSlideAdvances: the last window that is shifted, and the first that is not. -/
theorem witness_AsmSlideAdvances :
    (49991#16 + 1#16).toNat + 8 ≤ 50000 ∧ 50000 < (49992#16 + 1#16).toNat + 8 := by decide

/-- FrameAndPayloadOrder: the last word and the last byte. -/
theorem witness_FrameAndPayloadOrder : 7 < 8 ∧ 27 < 28 := by decide

/-- ADataOkCountsItsChannel: a window of channel 8, the highest valid one. -/
theorem witness_ADataOkCountsItsChannel :
    let s := afterSync (bareWords 0x08000000#32 0x722060FE#32)
    (s.frame.extractLsb' s.config.layout.channel 4).toNat = 8 := by decide

/-- LossOutcomesLeaveAlignment: a block that slides and one that skips. -/
theorem witness_LossOutcomesLeaveAlignment :
    lossWindow.config.lossResume = .slide ∧
    ({ lossWindow with config := { configT with lossResume := .skip } } : State).config.lossResume = .skip := by decide

/-- DeadReckoningRecordsClampedChannel: the two largest DR_CLAMP, with a tentative channel that is clamped. -/
theorem witness_DeadReckoningRecordsClampedChannel :
    let s : State := { draining .unaligned 1 [0#32, 0x8C000000#32] with config := { configT with drClamp := 10 } }
    (s.config.drClamp ≤ 10 ∧ 9 ≤ (s.frame.extractLsb' 248 4).toNat ∧ s.config.drClamp = 10) ∧
    let u : State := { s with config := { configT with drClamp := 9 } }
    u.config.drClamp ≤ 10 ∧ 9 ≤ (u.frame.extractLsb' 248 4).toNat ∧ u.config.drClamp ≠ 10 := by decide

/-- BadChannelReportsInvalidAlignedChannels: a window that reports, and one that does not. -/
theorem witness_BadChannelReportsInvalidAlignedChannels :
    (∃ t, HostOnly errorWindow ∧ errorWindow.phase = .running ∧ eosAt errorWindow.p = false ∧
      step errorWindow = .next t ∧ 9 ≤ errorWindow.decoded.channel.toNat) ∧
    ∃ t, HostOnly lastWindow ∧ lastWindow.phase = .running ∧ eosAt lastWindow.p = false ∧ step lastWindow = .next t := by
  obtain ⟨t, ht, -⟩ := errorWindow_steps
  obtain ⟨u, hu, -⟩ := lastWindow_steps
  exact ⟨⟨t, hostOnly_of_empty rfl, rfl, by decide, ht, by decide⟩, ⟨u, hostOnly_of_empty rfl, rfl, by decide, hu⟩⟩

/-- StepRunsDecodedOperation: a waiting host command, a running block, and an idle one. -/
theorem witness_StepRunsDecodedOperation :
    (∃ i, ({ idle with inbox := [.host2 1#2 [5#32]] } : State).inbox = .host2 1#2 [5#32] :: [] ∧
      decode (.host2 1#2 [5#32]) = .ok i ∧ idle.phase = .idle) ∧
    (HostOnly errorWindow ∧ errorWindow.phase = .running) ∧ idle.inbox = [] ∧ idle.phase = .idle :=
  ⟨⟨_, rfl, rfl, rfl⟩, ⟨hostOnly_of_empty rfl, rfl⟩, rfl, rfl⟩

/-- SelectorBitsAndRows: an ALIGNED and an UNALIGNED window that are not the pattern, the second at the last position. -/
theorem witness_SelectorBitsAndRows :
    (errorWindow.p.toNat + 8 ≤ 50000 ∧ errorWindow.alignment = .aligned ∧
      errorWindow.frame ≠ errorWindow.config.syncPattern) ∧
    lastWindow.p.toNat + 8 ≤ 50000 ∧ lastWindow.alignment = .unaligned ∧
      lastWindow.frame ≠ lastWindow.config.syncPattern := by decide

/-- AlignmentTransitionsExact: an UNALIGNED step and an ALIGNED one. -/
theorem witness_AlignmentTransitionsExact :
    (∃ t, HostOnly lastWindow ∧ lastWindow.phase = .running ∧ step lastWindow = .next t ∧
      lastWindow.alignment = .unaligned) ∧
    ∃ t, HostOnly lossWindow ∧ lossWindow.phase = .running ∧ step lossWindow = .next t ∧
      lossWindow.alignment = .aligned := by
  obtain ⟨t, ht, -⟩ := lossWindow_steps
  obtain ⟨u, hu, -⟩ := lastWindow_steps
  exact ⟨⟨u, hostOnly_of_empty rfl, rfl, hu, rfl⟩, ⟨t, hostOnly_of_empty rfl, rfl, ht, rfl⟩⟩

/-- PositionAdvancesByFrameOrWord: a step that stays ALIGNED, a loss, and an UNALIGNED step at the last window. -/
theorem witness_PositionAdvancesByFrameOrWord :
    (∃ t, HostOnly errorWindow ∧ errorWindow.phase = .running ∧ errorWindow.p.toNat + 8 ≤ 50000 ∧
      step errorWindow = .next t ∧ t.alignment = .aligned) ∧
    (∃ t, HostOnly lossWindow ∧ lossWindow.phase = .running ∧ lossWindow.p.toNat + 8 ≤ 50000 ∧
      step lossWindow = .next t ∧ lossWindow.alignment = .aligned ∧ t.alignment = .unaligned) ∧
    ∃ t, HostOnly lastWindow ∧ lastWindow.phase = .running ∧ lastWindow.p.toNat + 8 = 50000 ∧
      step lastWindow = .next t ∧ lastWindow.alignment = .unaligned ∧ t.alignment = .unaligned := by
  obtain ⟨t, ht, ha⟩ := errorWindow_steps
  obtain ⟨v, hv, hb⟩ := lossWindow_steps
  obtain ⟨u, hu, hc⟩ := lastWindow_steps
  exact ⟨⟨t, hostOnly_of_empty rfl, rfl, by decide, ht, ha⟩, ⟨v, hostOnly_of_empty rfl, rfl, by decide, hv, rfl, hb⟩,
    ⟨u, hostOnly_of_empty rfl, rfl, by decide, hu, rfl, hc⟩⟩

/-- ConditionsOfOneStep: a window that raises the bad channel alone, the end of stream, and a sync window. -/
theorem witness_ConditionsOfOneStep :
    windowConditions errorWindow = [.badChannelId] ∧ .badChannelId ∈ windowConditions errorWindow ∧
    50000 < (draining .aligned 49993 []).p.toNat + 8 ∧
    (afterSync syncWords).frame = (afterSync syncWords).config.syncPattern := by
  have h : windowConditions errorWindow = [.badChannelId] := by
    unfold windowConditions
    rw [errorWindow_outcome]
    decide
  exact ⟨h, by rw [h]; decide, by decide, by decide⟩

/-- ClassificationNamesSelection: an ALIGNED window that is not the pattern. -/
theorem witness_ClassificationNamesSelection :
    eosAt errorWindow.p = false ∧ errorWindow.alignment = .aligned ∧
      errorWindow.frame ≠ errorWindow.config.syncPattern := by decide

/-- DecClassifyTags: a record and a comparison for each clause, at channels 8 and 9. -/
theorem witness_DecClassifyTags :
    ((default : Decoded).errorFlag = false ∧ (({ (default : Decoded) with channel := 8#4 }).channel.toNat < 9)) ∧
    9 ≤ ({ (default : Decoded) with channel := 9#4 }).channel.toNat ∧
    ({ (default : Decoded) with errorFlag := true }).errorFlag = true := by decide

/-- UnbucketedCommandsCountOne, FinalizeFileMergesAndClears, ClearAllZeroesCounters: a nonzero idx; a bucket index. -/
theorem witness_nonzero_idx : (1#4 : Chan) ≠ 0#4 ∧ (10 : Nat) < 11 := by decide

/-- BucketCommandsCountOne: the last legal bucket, the last index of a bucket, and the first illegal bucket. -/
theorem witness_BucketCommandsCountOne :
    (10#4 : Chan).toNat ≤ 10 ∧ (10 : Nat) < 11 ∧ 10 < (11#4 : Chan).toNat := by decide

/-- IllegalStatsCommandsFault: a waiting command that faults and one that runs. -/
theorem witness_IllegalStatsCommandsFault :
    ({ idle with inbox := [.cmd8 (2#4 ++ 11#4)] } : State).inbox = .cmd8 (2#4 ++ 11#4) :: [] ∧
    ({ idle with inbox := [.cmd8 (7#4 ++ 15#4)] } : State).inbox = .cmd8 (7#4 ++ 15#4) :: [] := ⟨rfl, rfl⟩

/-- RouteAndClampBuckets: channels 8 and 9, and a block with the largest DR_CLAMP. -/
theorem witness_RouteAndClampBuckets :
    (8#4 : Chan).toNat < 9 ∧ 9 ≤ (9#4 : Chan).toNat ∧ ({ configT with drClamp := 9 } : Config).drClamp < 10 ∧
    ({ configT with drClamp := 10 } : Config).drClamp = 10 ∧ configAccepted { configT with drClamp := 10 } = true := by decide

/-- HostRunBufferLoadsAndRuns: the longest read. -/
theorem witness_HostRunBufferLoadsAndRuns : (List.replicate 50000 (1#32 : Word)).length ≤ 50000 := by
  simp only [List.length_replicate]; decide

/-- ReadoutMapFields: the last bucket and the first index past the map. -/
theorem witness_ReadoutMapFields : 10 < 11 ∧ 54 ≤ 54 := by decide

/-- HostContractRefusals: one word too many, host code 3 while IDLE, a pattern of 0. -/
theorem witness_HostContractRefusals :
    50000 < (List.replicate 50001 (1#32 : Word)).length ∧
    (({ idle with inbox := [.host2 3#2 []] } : State).inbox = .host2 3#2 [] :: [] ∧ idle.phase = .idle) ∧
    configAccepted { configT with syncPattern := 0#256 } = false := by
  exact ⟨by rw [List.length_replicate]; decide, ⟨rfl, rfl⟩, by decide⟩

/-- AcceptedConfigurations: an accepted configuration at the bounds of R116. -/
theorem witness_AcceptedConfigurations : configAccepted { configT with drResidue := 7, drClamp := 10 } = true := by
  decide

/-- HostWaitsForRunningBuffer: a command waits while a buffer is drained. -/
theorem witness_HostWaitsForRunningBuffer :
    let s : State := { lastWindow with inbox := [.host2 2#2 []] }
    ∃ t, HostOnly s ∧ s.phase = .running ∧ step s = .next t := by
  refine ⟨_, ?_, rfl, rfl⟩
  intro ow h
  simp only [List.mem_singleton] at h
  subst h; rfl

/-- OutputOnlyGrows: a step, a window that is not the last, and the last. -/
theorem witness_OutputOnlyGrows :
    (∃ t, HostOnly lastWindow ∧ lastWindow.phase = .running ∧ step lastWindow = .next t ∧
      lastWindow.p.toNat + 8 ≤ 50000) ∧
    ∃ t, HostOnly (draining .aligned 49993 []) ∧ (draining .aligned 49993 []).phase = .running ∧
      step (draining .aligned 49993 []) = .next t ∧ 50000 < (draining .aligned 49993 []).p.toNat + 8 := by
  obtain ⟨u, hu, -⟩ := lastWindow_steps
  exact ⟨⟨u, hostOnly_of_empty rfl, rfl, hu, by decide⟩, ⟨_, hostOnly_of_empty rfl, rfl, rfl, by decide⟩⟩

/-- RecordStreamsPartitionAggregate: two capture times for two records of two channels. -/
theorem witness_RecordStreamsPartitionAggregate : (Event.badChannel default).kind ≠ 1 ∧
    let events := [Event.errorRecord recordDec2, .badChannel default, .errorRecord { recordDec2 with channel := 9#4 }]
    ["T1", "T2"].length = (errorRecords events).length ∧
    channelStream 9#4 ["T1", "T2"] events ≠ [] := by decide +kernel

/-- ConfigurationNeverWritten: an operation that answers a next state, and a step. -/
theorem witness_ConfigurationNeverWritten :
    (∃ t, exec .hostReset idle = .next t) ∧ ∃ t, step lastWindow = .next t := by
  obtain ⟨u, hu, -⟩ := lastWindow_steps
  exact ⟨⟨_, rfl⟩, u, hu⟩

/-- WindowStaysFaithful: the invariant of a buffer at its last window, and a step. -/
theorem witness_WindowStaysFaithful : ∃ t, WindowInv lastWindow ∧ step lastWindow = .next t := by
  obtain ⟨u, hu, -⟩ := lastWindow_steps
  exact ⟨u, windowInv_draining (by decide), hu⟩

/-- BufferStaysCanonical: the invariant of a loaded buffer, and a step. -/
theorem witness_BufferStaysCanonical : ∃ t, BufferInv lastWindow ∧ step lastWindow = .next t := by
  obtain ⟨u, hu, -⟩ := lastWindow_steps
  exact ⟨u, bufferInv_draining (by decide), hu⟩

/-- CountersStayConsistent: the invariant while a buffer is drained, and a step. -/
theorem witness_CountersStayConsistent : ∃ t, CounterInv errorWindow ∧ step errorWindow = .next t := by
  obtain ⟨t, ht, -⟩ := errorWindow_steps
  exact ⟨t, counterInv_draining (by decide), ht⟩

/-- FileCountersNeverWrap: a state of the invariant, and a bucket. -/
theorem witness_FileCountersNeverWrap : CounterInv errorWindow ∧ (10 : Nat) < 11 :=
  ⟨counterInv_draining (by decide), by decide⟩

/-- CountersRiseWithinBuffer: a window that counts. -/
theorem witness_CountersRiseWithinBuffer :
    ∃ t, CounterInv errorWindow ∧ errorWindow.phase = .running ∧ errorWindow.p.toNat + 8 ≤ 50000 ∧
      step errorWindow = .next t := by
  obtain ⟨t, ht, -⟩ := errorWindow_steps
  exact ⟨t, counterInv_draining (by decide), rfl, by decide, ht⟩

/-- SpecRunsNeverFault: a run, and a step of it. -/
theorem witness_SpecRunsNeverFault : ∃ t, SpecRun errorWindow ∧ step errorWindow = .next t := by
  obtain ⟨t, ht, -⟩ := errorWindow_steps
  exact ⟨t, specRun_draining _ _ _, ht⟩

/-- EveryBufferEnds: a buffer at its start. -/
theorem witness_EveryBufferEnds :
    SpecRun (draining .aligned 0 [1#32]) ∧ (draining .aligned 0 [1#32]).phase = .running :=
  ⟨specRun_draining _ _ _, rfl⟩

/-- TransactionEndsInOneSummary: an idle block and a read. -/
theorem witness_TransactionEndsInOneSummary :
    SpecRun idle ∧ idle.phase = .idle ∧ ([1#32] : List Word).length ≤ 50000 := ⟨specRun_idle, rfl, by decide⟩

/-- UnmatchedBufferScansEveryWord: a buffer of zero-words at its start. -/
theorem witness_UnmatchedBufferScansEveryWord :
    let s := draining .unaligned 0 []
    SpecRun s ∧ WindowInv s ∧ s.phase = .running ∧ s.alignment = .unaligned ∧ s.p = 0#16 ∧
    ∀ q, q + 8 ≤ 50000 → frameOfWindow (windowAt s.buffer q) ≠ s.config.syncPattern := by
  refine ⟨specRun_draining _ _ _, windowInv_draining (by decide), rfl, rfl, rfl, fun q hq => frame_ne_of_leading ?_⟩
  have h : bufferRead (loadBuffer []) q = dataToken 0#32 := by
    rw [bufferRead_loadBuffer (by decide), if_neg (by simp), if_neg (by rw [bufWords_eq]; omega)]
  show tokenWord (bufferRead (loadBuffer []) q) ≠ _
  rw [h]; decide

/-- ZeroBufferCounts: an idle UNALIGNED block with the default residue, and a full read of zero-words. -/
theorem witness_ZeroBufferCounts :
    50000 ≤ 50000 ∧ CounterInv idle ∧ idle.phase = .idle ∧ idle.alignment = .unaligned ∧ idle.config.drResidue = 1 :=
  ⟨by decide, counterInv_idle, rfl, rfl, rfl⟩

end Sys2Proof.Tests
end

