-- ==== Sys2Proof/Proofs/Scope.lean ====
section
/-!
The statement of 00_scope.md: what one step runs. A fetch takes a word or the window's own operation; STEP's evaluation is
the write of `acc`; the obligation puts the two together.
-/

namespace Sys2Proof.Machine

/-- A window's checksum is evaluated just where the block is ALIGNED and the window is not SYNC_PATTERN (R55, R62). -/
theorem checksHere_iff (s : State) :
    checksHere s = true ↔ s.alignment = .aligned ∧ s.frame ≠ s.config.syncPattern := by
  unfold checksHere syncHere
  cases s.alignment <;> simp [alignedBit]

/-- STEP's evaluation as one update of `acc`, which keeps its value where no checksum is evaluated. -/
theorem evaluateWindow_eq_acc (s : State) :
    evaluateWindow s = { s with
      acc :=
        if eosAt s.p = false ∧ s.alignment = .aligned ∧ s.frame ≠ s.config.syncPattern then checksumOf s.frame
        else s.acc } := by
  have hc : (!eosAt s.p && checksHere s) = true ↔
      eosAt s.p = false ∧ s.alignment = .aligned ∧ s.frame ≠ s.config.syncPattern := by
    rw [Bool.and_eq_true, Bool.not_eq_true', checksHere_iff]
  unfold evaluateWindow
  by_cases h : (!eosAt s.p && checksHere s) = true
  · rw [if_pos h, if_pos (hc.mp h)]
  · rw [if_neg h, if_neg (mt hc.mpr h)]

/-- The first waiting word is taken by the fetch, a host word only while IDLE (R96). -/
theorem fetch_waiting {s : State} {ow : OpWord} {rest : List OpWord} (hx : s.inbox = ow :: rest)
    (hi : ow.isHost = true → s.phase = .idle) : fetch s = fetchWord ow { s with inbox := rest } := by
  cases hw : ow.isHost with
  | true => simp only [fetch, hx, hw, hi hw]
  | false => simp only [fetch, hx, hw]

/-- A word that is taken and decodes is run as its operation, from the state without it. -/
theorem step_waiting {s : State} {ow : OpWord} {rest : List OpWord} {i : Instr} (hx : s.inbox = ow :: rest)
    (hd : decode ow = .ok i) (hi : ow.isHost = true → s.phase = .idle) :
    step s = exec i { s with inbox := rest } := by
  have hw : fetchWord ow { s with inbox := rest } = .run i { s with inbox := rest } := by simp only [fetchWord, hd]
  simp only [step, fetch_waiting hx hi, hw]

/-- While IDLE with nothing waiting, a step answers the same state (R126). -/
theorem step_idle_empty {s : State} (hx : s.inbox = []) (hi : s.phase = .idle) : step s = .next s := by
  have hf : fetch s = .wait := by simp only [fetch, hx, fetchWindow, hi]
  simp only [step, hf]

/-- Settles O17: a word taken, the window's own operation from the evaluated state, and the idle block. -/
theorem stepRunsDecodedOperation : Obligations.StepRunsDecodedOperation := by
  unfold Obligations.StepRunsDecodedOperation
  refine ⟨fun s ow rest i hx hd hi => step_waiting hx hd hi, fun s hh hr => ?_, fun s hx hi => step_idle_empty hx hi⟩
  rw [← evaluateWindow_eq_acc, ← windowStep_eq_step hh hr]
  rfl

end Sys2Proof.Machine
end

/-!
The statements of 10_state.md. The stream elements (`phase`, `p`, `B`, `W` and the waiting commands) move in a window
step as one ASM_NEXT_FRAME or one ASM_SLIDE moves them, which gives the position and the faithful window; the
configuration is kept by every meaning; `acc` and `result` are carried along by every meaning and looked at by none.
-/

namespace Sys2Proof.Machine

/-! ## The stream elements -/

/-- Two states agree in the elements through which a buffer is drained: `phase`, `p`, `B`, `W` and what waits. -/
structure StandsAs (t u : State) : Prop where
  phase : t.phase = u.phase
  inbox : t.inbox = u.inbox
  buffer : t.buffer = u.buffer
  p : t.p = u.p
  window : t.window = u.window

theorem StandsAs.trans {s t u : State} (h : StandsAs s t) (h' : StandsAs t u) : StandsAs s u :=
  ⟨h.phase.trans h'.phase, h.inbox.trans h'.inbox, h.buffer.trans h'.buffer, h.p.trans h'.p, h.window.trans h'.window⟩

theorem StandsAs.advanceFrame {t u : State} (h : StandsAs t u) (p : Pos) :
    StandsAs (advanceFrame p t) (advanceFrame p u) :=
  ⟨h.phase, h.inbox, h.buffer, rfl, by simp only [advanceFrame_window, h.buffer, h.window]⟩

theorem StandsAs.slideWord {t u : State} (h : StandsAs t u) (p : Pos) : StandsAs (slideWord p t) (slideWord p u) :=
  ⟨h.phase, h.inbox, h.buffer, rfl, by simp only [slideWord_window, h.buffer, h.window]⟩

@[simp] theorem evaluateWindow_alignment (s : State) : (evaluateWindow s).alignment = s.alignment := by
  unfold evaluateWindow; split <;> rfl

@[simp] theorem evaluateWindow_config (s : State) : (evaluateWindow s).config = s.config := by
  unfold evaluateWindow; split <;> rfl

/-- STEP's evaluation moves nothing. -/
theorem evaluateWindow_standsAs (s : State) : StandsAs (evaluateWindow s) s := by
  obtain ⟨a, ha⟩ := evaluateWindow_eq s
  rw [ha]
  exact ⟨rfl, rfl, rfl, rfl, rfl⟩

theorem reported_standsAs (flag crcOk : Bool) (s : State) : StandsAs (reported flag crcOk s) s :=
  ⟨reported_phase .., reported_inbox .., reported_buffer .., reported_p .., reported_window ..⟩

theorem resumeAfterLoss_of_slide {s : State} (h : s.config.lossResume = .slide) :
    resumeAfterLoss s = slideWord s.p s := by simp only [resumeAfterLoss, h]

theorem resumeAfterLoss_of_skip {s : State} (h : s.config.lossResume = .skip) :
    resumeAfterLoss s = advanceFrame s.p s := by simp only [resumeAfterLoss, h]

/-! ## How a window step that is not the last moves the stream (R15, R77) -/

/-- The two moves: a frame, after which the block is UNALIGNED only by a loss under SKIP, or a word, after which it is
UNALIGNED and was ALIGNED only for a loss under SLIDE. -/
inductive StreamMove (s t : State) : Prop
  | frame (stands : StandsAs t (advanceFrame s.p s))
      (resume : t.alignment = .unaligned → s.alignment = .aligned ∧ s.config.lossResume = .skip)
  | word (stands : StandsAs t (slideWord s.p s)) (unaligned : t.alignment = .unaligned)
      (resume : s.alignment = .aligned → s.config.lossResume = .slide)

/-- A frame consumed by a step that ends ALIGNED. -/
theorem StreamMove.frame_aligned {s u : State} (hu : StandsAs u s) (ha : u.alignment = .aligned) :
    StreamMove s (advanceFrame s.p u) :=
  .frame (hu.advanceFrame s.p) fun h => nomatch ha.symm.trans h

/-- A word slid over by a step that starts and ends UNALIGNED. -/
theorem StreamMove.word_unaligned {s u : State} (hu : StandsAs u s) (ha : s.alignment = .unaligned)
    (hua : u.alignment = .unaligned) : StreamMove s (slideWord s.p u) :=
  .word (hu.slideWord s.p) hua fun h => nomatch ha.symm.trans h

/-- An alignment loss moves as LOSS_RESUME says (R5, R69). -/
theorem StreamMove.resumeAfterLoss {s u : State} (hu : StandsAs u s) (hc : u.config = s.config)
    (ha : s.alignment = .aligned) (hua : u.alignment = .unaligned) : StreamMove s (resumeAfterLoss u) := by
  cases hl : s.config.lossResume with
  | slide =>
    rw [resumeAfterLoss_of_slide (by rw [hc, hl]), hu.p]
    exact .word (hu.slideWord s.p) hua fun _ => hl
  | skip =>
    rw [resumeAfterLoss_of_skip (by rw [hc, hl]), hu.p]
    exact .frame (hu.advanceFrame s.p) fun _ => ⟨ha, hl⟩

/-- A loss stands where the window stood until it resumes. -/
theorem loss_standsAs (flag crcOk : Bool) (s : State) :
    StandsAs { countAlignmentLoss (reported flag crcOk s) with alignment := .unaligned } s :=
  have h := reported_standsAs flag crcOk s
  ⟨h.phase, h.inbox, h.buffer, h.p, h.window⟩

/-- Every outcome of a whole window is one of the two moves. -/
theorem WindowOutcome.streamMove {s t : State} (h : WindowOutcome s t) (hw : eosAt s.p = false) : StreamMove s t := by
  cases h with
  | eosFinalize he => exact nomatch hw.symm.trans he
  | aFiller he hs ha => exact .frame_aligned ⟨rfl, rfl, rfl, rfl, rfl⟩ ha
  | uSync he hs ha => exact .frame_aligned ⟨rfl, rfl, rfl, rfl, rfl⟩ rfl
  | aDataError he hs ha hf =>
    have h := reported_standsAs true false s
    exact .frame_aligned ⟨h.phase, h.inbox, h.buffer, h.p, h.window⟩ ((reported_alignment ..).trans ha)
  | aLossCrc he hs ha hf hc =>
    exact .resumeAfterLoss (loss_standsAs ..) (reported_config ..) ha rfl
  | aLossChannel he hs ha hf hc hv =>
    exact .resumeAfterLoss (loss_standsAs ..) (reported_config ..) ha rfl
  | aDataOk he hs ha hf hc hv => exact .frame_aligned ⟨rfl, rfl, rfl, rfl, rfl⟩ ha
  | uDrError he hs ha hr hf hk => exact .word_unaligned ⟨rfl, rfl, rfl, rfl, rfl⟩ ha ha
  | uDrOk he hs ha hr hf hk => exact .word_unaligned ⟨rfl, rfl, rfl, rfl, rfl⟩ ha ha
  | uSkip he hs ha hr => exact .word_unaligned ⟨rfl, rfl, rfl, rfl, rfl⟩ ha ha

/-- A step of a buffer that is not its last is one of the two moves. -/
theorem step_streamMove {s t : State} (hh : HostOnly s) (hr : s.phase = .running) (hw : eosAt s.p = false)
    (h : step s = .next t) : StreamMove s t := by
  have hs := evaluateWindow_standsAs s
  cases (step_running_outcome hh hr h).streamMove (by rw [hs.p, hw]) with
  | frame stands resume =>
    rw [evaluateWindow_alignment, evaluateWindow_config] at resume
    rw [hs.p] at stands
    exact .frame (stands.trans (hs.advanceFrame s.p)) resume
  | word stands unaligned resume =>
    rw [evaluateWindow_alignment, evaluateWindow_config] at resume
    rw [hs.p] at stands
    exact .word (stands.trans (hs.slideWord s.p)) unaligned resume

/-- The last step of a buffer ends it: IDLE, with the same commands waiting (R65). -/
theorem step_endOfStream {s t : State} (hh : HostOnly s) (hr : s.phase = .running) (he : eosAt s.p = true)
    (h : step s = .next t) : t.phase = .idle ∧ t.inbox = s.inbox := by
  have hs := evaluateWindow_standsAs s
  have hw : eosAt (evaluateWindow s).p = true := by rw [hs.p, he]
  cases step_running_outcome hh hr h with
  | eosFinalize _ => exact ⟨rfl, hs.inbox⟩
  | _ he' => exact nomatch hw.symm.trans he'

/-! ## The position -/

/-- `p` does not wrap where a whole window stands at it (R15). -/
theorem toNat_add_of_window {p : Pos} {n : Nat} (hp : p.toNat + 8 ≤ 50000) (hn : n ≤ 8) :
    (p + BitVec.ofNat 16 n).toNat = p.toNat + n := by
  rw [BitVec.toNat_add, BitVec.toNat_ofNat]
  omega

/-- Settles O21: the position of each of the two moves, and which move each change of alignment is. -/
theorem positionAdvancesByFrameOrWord : Obligations.PositionAdvancesByFrameOrWord := by
  unfold Obligations.PositionAdvancesByFrameOrWord
  intro s t hh hr hp h
  cases step_streamMove hh hr (eosAt_eq_false.mpr hp) h with
  | frame stands resume =>
    have ht : t.p.toNat = s.p.toNat + 8 := by rw [stands.p]; exact toNat_add_of_window hp (Nat.le_refl 8)
    refine ⟨fun _ => ht, fun _ hu => ?_, fun hs hu => ?_, by omega⟩
    · rw [(resume hu).2]; exact ht
    · exact nomatch hs.symm.trans (resume hu).1
  | word stands unaligned resume =>
    have ht : t.p.toNat = s.p.toNat + 1 := by rw [stands.p]; exact toNat_add_of_window hp (by decide)
    refine ⟨fun ha => (nomatch ha.symm.trans unaligned), fun ha _ => ?_, fun _ _ => ht, by omega⟩
    rw [resume ha]; exact ht

/-! ## The window (R16, R59, R60) -/

theorem WindowFaithful.of_standsAs {t u : State} (h : StandsAs t u) (hu : WindowFaithful u) : WindowFaithful t := by
  unfold WindowFaithful
  rw [h.p, h.window, h.buffer]
  exact hu

/-- The words of a shifted window: the next word of the old one, and the appended word last. -/
theorem windowWord_shiftWindow (v : Window) (w : Word) {j : Nat} (hj : j < frameWords) :
    windowWord (shiftWindow v w) j = if j = 7 then w else windowWord v (j + 1) := by
  have hj : j < 8 := hj
  interval_cases j <;> rfl

/-- ASM_NEXT_FRAME loads the window of its position anew. -/
theorem advanceFrame_faithful (p : Pos) (s : State) : WindowFaithful (advanceFrame p s) := by
  intro he j hj
  rw [advanceFrame_p] at he
  simp only [advanceFrame_window, he, Bool.false_eq_true, if_false]
  exact windowWord_windowAt _ _ j hj

/-- ASM_SLIDE keeps a faithful window faithful: seven words move up, the eighth is read. -/
theorem slideWord_faithful {s : State} (hw : eosAt s.p = false) (hf : WindowFaithful s) :
    WindowFaithful (slideWord s.p s) := by
  intro he j hj
  have hj8 : j < 8 := hj
  rw [slideWord_p] at he
  have hp : (s.p + 1#16).toNat = s.p.toNat + 1 := toNat_add_of_window (eosAt_eq_false.mp hw) (by decide)
  simp only [slideWord_window, slideWord_p, slideWord_buffer, he, Bool.false_eq_true, if_false,
    windowWord_shiftWindow _ _ hj, hp]
  split
  · rename_i h7; rw [h7]
  · rename_i h7
    have hj' : j + 1 < frameWords := by change j + 1 < 8; omega
    rw [hf hw (j + 1) hj', Nat.add_assoc, Nat.add_comm 1 j]

/-- HOST_RUN_BUFFER and ASM_LOAD load the first window (R57). -/
theorem loadRead_faithful (raw : List Word) (s : State) : WindowFaithful (loadRead raw s) :=
  windowFaithful_of_eq rfl

/-- While IDLE the window invariant speaks of the waiting commands only. -/
theorem windowInv_of_idle {s : State} (hh : HostOnly s) (hi : s.phase = .idle) : WindowInv s :=
  ⟨hh, fun hr => (nomatch hi.symm.trans hr), fun hr => (nomatch hi.symm.trans hr)⟩

/-- The invariant of a state that stands where a state with a faithful window stands. -/
theorem windowInv_of_standsAs {t u : State} (h : StandsAs t u) (hh : HostOnly u) (hp : u.p.toNat ≤ bufWords)
    (hf : WindowFaithful u) : WindowInv t :=
  ⟨by unfold HostOnly; rw [h.inbox]; exact hh, fun _ => by rw [h.p]; exact hp, fun _ => hf.of_standsAs h⟩

/-- A window step keeps the window invariant. -/
theorem windowInv_step_running {s t : State} (hi : WindowInv s) (hr : s.phase = .running) (h : step s = .next t) :
    WindowInv t := by
  cases he : eosAt s.p with
  | true =>
    obtain ⟨hidle, hinbox⟩ := step_endOfStream hi.hostOnly hr he h
    exact windowInv_of_idle (by unfold HostOnly; rw [hinbox]; exact hi.hostOnly) hidle
  | false =>
    have hp := eosAt_eq_false.mp he
    cases step_streamMove hi.hostOnly hr he h with
    | frame stands _ =>
      refine windowInv_of_standsAs stands hi.hostOnly ?_ (advanceFrame_faithful s.p s)
      rw [advanceFrame_p, toNat_add_of_window hp (Nat.le_refl 8)]
      exact hp
    | word stands _ _ =>
      refine windowInv_of_standsAs stands hi.hostOnly ?_ (slideWord_faithful he (hi.faithful hr))
      rw [slideWord_p, toNat_add_of_window hp (by decide), bufWords_eq]
      omega

/-- A host command taken while IDLE leaves the window invariant: only HOST_RUN_BUFFER starts a buffer, at `p` 0. -/
theorem windowInv_step_idle {s t : State} (hi : WindowInv s) (hp : s.phase = .idle) (h : step s = .next t) :
    WindowInv t := by
  rcases step_idle_outcome hi.hostOnly hp h with ⟨-, rfl⟩ | ⟨code, raw, rest, hx, hc⟩
  · exact hi
  · have hrest : ∀ ow ∈ rest, ow.isHost = true := fun ow how => hi.hostOnly ow (by rw [hx]; exact .tail _ how)
    rcases hc with hreset | hrun | hread
    · cases hreset
      exact windowInv_of_idle hrest rfl
    · simp only [exec, execHostRunBuffer] at hrun
      split at hrun
      · cases hrun
        exact windowInv_of_standsAs ⟨rfl, rfl, rfl, rfl, rfl⟩ hrest (Nat.zero_le _) (loadRead_faithful raw _)
      · cases hrun
    · cases hread
      exact windowInv_of_idle hrest hp

/-- Settles O50: a window step moves the window with the position, and a command starts a buffer with its first
window. -/
theorem windowStaysFaithful : Obligations.WindowStaysFaithful := by
  unfold Obligations.WindowStaysFaithful
  intro s t hi h
  cases hp : s.phase with
  | running => exact windowInv_step_running hi hp h
  | idle => exact windowInv_step_idle hi hp h

/-! ## The configuration (R23) -/

/-- Where the outcome is a next state, it has the configuration of `s`. -/
def KeepsConfig (s : State) (o : Result) : Prop := ∀ t, o = .next t → t.config = s.config

theorem KeepsConfig.next {s t : State} (h : t.config = s.config) : KeepsConfig s (.next t) := by
  rintro _ ⟨⟩; exact h

theorem KeepsConfig.fault (s : State) (r : Fault) : KeepsConfig s (.fault r) := by rintro _ ⟨⟩

theorem KeepsConfig.refused (s : State) (r : Refusal) : KeepsConfig s (.refused r) := by rintro _ ⟨⟩

theorem KeepsConfig.withBucket {s t : State} (k : Chan) (h : t.config = s.config) : KeepsConfig s (withBucket k t) := by
  intro u hu
  obtain ⟨-, rfl⟩ := withBucket_eq_next.mp hu
  exact h

theorem KeepsConfig.andThen {s : State} {o : Result} {f : State → Result} (ho : KeepsConfig s o)
    (hf : ∀ u, KeepsConfig u (f u)) : KeepsConfig s (andThen o f) := by
  intro t ht
  obtain ⟨u, hu, hfu⟩ := andThen_eq_next.mp ht
  exact (hf u t hfu).trans (ho u hu)

/-- The configuration is kept by each operation. -/
theorem exec_keepsConfig (i : Instr) (s : State) : KeepsConfig s (exec i s) := by
  cases i with
  | asmLoad raw | hostRunBuffer raw =>
    simp only [exec, execAsmLoad, execHostRunBuffer]
    split
    · exact .next rfl
    · exact .refused s _
  | aDataError =>
    rw [exec, execADataError_eq]
    exact .next (reported_config ..)
  | aLossCrc =>
    rw [exec, execALossCrc_eq]
    exact .next ((resumeAfterLoss_config _).trans (reported_config ..))
  | aLossChannel =>
    rw [exec, execALossChannel_eq]
    exact .next (resumeAfterLoss_config _)
  | badChannel channel flag crcOk =>
    rw [exec, execBadChannel, reportBadChannel_eq]
    exact .next rfl
  | aDataOk | uDrOk | uDrError =>
    simp only [exec, execADataOk_eq, execUDrOk_eq, execUDrError_eq]
    exact .andThen (.withBucket _ rfl) fun _ => .next rfl
  | recAlignedOk k | recAlignedError k | recNotAlignedOk k | recNotAlignedError k => exact .withBucket k rfl
  | _ => exact .next rfl

/-- What a fetch finds to run starts from the configuration of the state. -/
theorem fetch_run_config {s u : State} {i : Instr} (h : fetch s = .run i u) : u.config = s.config := by
  rcases fetch_cases s with hw | ⟨ow, rest, -, hw, -⟩
  · rw [hw, fetchWindow] at h
    split at h
    · cases h
      exact evaluateWindow_config s
    · cases h
  · rw [hw] at h
    rcases fetchWord_cases ow { s with inbox := rest } with ⟨j, -, hj⟩ | ⟨-, hj⟩ | ⟨-, hj⟩ | ⟨-, hj⟩ <;>
      cases hj.symm.trans h
    rfl

/-- The configuration is kept by each step. -/
theorem step_keepsConfig (s : State) : KeepsConfig s (step s) := by
  unfold step
  cases hf : fetch s with
  | run i u => exact fun t ht => (exec_keepsConfig i u t ht).trans (fetch_run_config hf)
  | wait => exact .next rfl
  | fault r => exact .fault s r
  | refused r => exact .refused s r

/-- Settles O47: no operation writes the configuration, and a step runs at most one. -/
theorem configurationNeverWritten : Obligations.ConfigurationNeverWritten :=
  ⟨exec_keepsConfig, step_keepsConfig⟩

/-! ## The scratch elements `acc` and `result` (R18) -/

/-- Two states that differ in `acc` and `result` only. -/
def ScratchApart (s s' : State) : Prop := ∃ a r, s' = { s with acc := a, result := r }

/-- Two outcomes that stop alike, or lead to states that differ in `acc` and `result` only. -/
inductive ScratchBlind : Result → Result → Prop
  | next {t t' : State} (h : ScratchApart t t') : ScratchBlind (.next t) (.next t')
  | fault (r : Fault) : ScratchBlind (.fault r) (.fault r)
  | refused (r : Refusal) : ScratchBlind (.refused r) (.refused r)

theorem ScratchBlind.andThen {o o' : Result} {f : State → Result} (ho : ScratchBlind o o')
    (hf : ∀ u u', ScratchApart u u' → ScratchBlind (f u) (f u')) : ScratchBlind (andThen o f) (andThen o' f) := by
  cases ho with
  | next h => exact hf _ _ h
  | fault r => exact .fault r
  | refused r => exact .refused r

theorem ScratchBlind.withBucket {u u' : State} (k : Chan) (h : ScratchApart u u') :
    ScratchBlind (withBucket k u) (withBucket k u') := by
  unfold Machine.withBucket
  split
  · exact .next h
  · exact .fault _

theorem ScratchApart.reported {s s' : State} (flag crcOk : Bool) (h : ScratchApart s s') :
    ScratchApart (reported flag crcOk s) (reported flag crcOk s') := by
  obtain ⟨a, r, rfl⟩ := h
  have hd : State.decoded { s with acc := a, result := r } = s.decoded := rfl
  unfold Machine.reported
  rw [hd]
  split
  · exact ⟨a, r, rfl⟩
  · exact ⟨a, r, rfl⟩

theorem ScratchApart.resumeAfterLoss {s s' : State} (h : ScratchApart s s') :
    ScratchApart (resumeAfterLoss s) (resumeAfterLoss s') := by
  obtain ⟨a, r, rfl⟩ := h
  cases hl : s.config.lossResume with
  | slide =>
    rw [resumeAfterLoss_of_slide hl, resumeAfterLoss_of_slide (s := { s with acc := a, result := r }) hl]
    exact ⟨a, r, rfl⟩
  | skip =>
    rw [resumeAfterLoss_of_skip hl, resumeAfterLoss_of_skip (s := { s with acc := a, result := r }) hl]
    exact ⟨a, r, rfl⟩

/-- A loss after a report looks at neither scratch element. -/
theorem ScratchApart.loss {s s' : State} (h : ScratchApart s s') :
    ScratchApart (Machine.resumeAfterLoss { countAlignmentLoss s with alignment := .unaligned })
      (Machine.resumeAfterLoss { countAlignmentLoss s' with alignment := .unaligned }) := by
  obtain ⟨a, r, rfl⟩ := h
  exact .resumeAfterLoss ⟨a, r, rfl⟩

/-- No operation looks at `acc` or `result`. -/
theorem exec_scratchBlind (i : Instr) {s s' : State} (h : ScratchApart s s') : ScratchBlind (exec i s) (exec i s') := by
  obtain ⟨a, r, rfl⟩ := h
  cases i with
  | asmLoad raw | hostRunBuffer raw =>
    simp only [exec, execAsmLoad, execHostRunBuffer]
    split
    · exact .next ⟨a, r, rfl⟩
    · exact .refused _
  | aDataError =>
    simp only [exec, execADataError_eq]
    obtain ⟨a', r', hu⟩ := ScratchApart.reported true false ⟨a, r, rfl⟩
    rw [hu]
    exact .next ⟨a', r', rfl⟩
  | aLossCrc =>
    simp only [exec, execALossCrc_eq]
    exact .next (.loss (.reported false false ⟨a, r, rfl⟩))
  | aLossChannel =>
    simp only [exec, execALossChannel_eq]
    exact .next (.loss ⟨a, r, rfl⟩)
  | badChannel channel flag crcOk =>
    simp only [exec, execBadChannel, reportBadChannel_eq]
    exact .next ⟨a, r, rfl⟩
  | aDataOk | uDrOk | uDrError =>
    simp only [exec, execADataOk_eq, execUDrOk_eq, execUDrError_eq]
    exact .andThen (.withBucket _ ⟨a, r, rfl⟩) fun u u' ⟨a, r, hu⟩ => .next ⟨a, r, by rw [hu]; rfl⟩
  | recAlignedOk k | recAlignedError k | recNotAlignedOk k | recNotAlignedError k => exact .withBucket k ⟨a, r, rfl⟩
  | _ => exact .next ⟨_, _, rfl⟩

/-- Two fetches that find the same to do, from states that differ in `acc` and `result` only. -/
inductive FetchedAlike : Fetched → Fetched → Prop
  | run (i : Instr) {u u' : State} (h : ScratchApart u u') : FetchedAlike (.run i u) (.run i u')
  | wait : FetchedAlike .wait .wait
  | fault (r : Fault) : FetchedAlike (.fault r) (.fault r)
  | refused (r : Refusal) : FetchedAlike (.refused r) (.refused r)

theorem ScratchApart.inbox {s s' : State} (h : ScratchApart s s') : s'.inbox = s.inbox := by
  obtain ⟨a, r, rfl⟩ := h; rfl

theorem ScratchApart.phase {s s' : State} (h : ScratchApart s s') : s'.phase = s.phase := by
  obtain ⟨a, r, rfl⟩ := h; rfl

theorem ScratchApart.selectedOp {s s' : State} (h : ScratchApart s s') : selectedOp s' = selectedOp s := by
  obtain ⟨a, r, rfl⟩ := h; rfl

theorem ScratchApart.evaluateWindow {s s' : State} (h : ScratchApart s s') :
    ScratchApart (evaluateWindow s) (evaluateWindow s') := by
  obtain ⟨a, r, rfl⟩ := h
  obtain ⟨b, hb⟩ := evaluateWindow_eq s
  obtain ⟨c, hc⟩ := evaluateWindow_eq { s with acc := a, result := r }
  rw [hb, hc]
  exact ⟨c, r, rfl⟩

theorem ScratchApart.withInbox {s s' : State} (h : ScratchApart s s') (rest : List OpWord) :
    ScratchApart { s with inbox := rest } { s' with inbox := rest } := by
  obtain ⟨a, r, rfl⟩ := h; exact ⟨a, r, rfl⟩

/-- The window's own operation depends on neither scratch element. -/
theorem fetchWindow_alike {s s' : State} (h : ScratchApart s s') : FetchedAlike (fetchWindow s) (fetchWindow s') := by
  cases hp : s.phase with
  | idle =>
    simp only [fetchWindow, h.phase, hp]
    exact .wait
  | running =>
    simp only [fetchWindow, h.phase, hp, h.selectedOp]
    exact .run _ h.evaluateWindow

theorem fetchWord_alike (ow : OpWord) {s s' : State} (h : ScratchApart s s') :
    FetchedAlike (fetchWord ow s) (fetchWord ow s') := by
  unfold fetchWord
  split
  · exact .run _ h
  · exact .fault _
  · exact .refused _
  · exact .refused _

theorem fetch_alike {s s' : State} (h : ScratchApart s s') : FetchedAlike (fetch s) (fetch s') := by
  cases hx : s.inbox with
  | nil =>
    simp only [fetch, h.inbox, hx]
    exact fetchWindow_alike h
  | cons ow rest =>
    by_cases hi : ow.isHost = true → s.phase = .idle
    · rw [fetch_waiting hx hi, fetch_waiting (h.inbox.trans hx) (h.phase ▸ hi)]
      exact fetchWord_alike ow (h.withInbox rest)
    · obtain ⟨hw, hp⟩ := Classical.not_imp.mp hi
      cases hr : s.phase with
      | idle => exact absurd hr hp
      | running =>
        simp only [fetch, h.inbox, hx, hw, h.phase, hr]
        exact fetchWindow_alike h

/-- A step looks at neither scratch element. -/
theorem step_scratchBlind {s s' : State} (h : ScratchApart s s') : ScratchBlind (step s) (step s') := by
  have hf := fetch_alike h
  unfold step
  generalize fetch s = f at hf ⊢
  generalize fetch s' = f' at hf ⊢
  cases hf with
  | run i hu => exact exec_scratchBlind i hu
  | wait => exact .next h
  | fault r => exact .fault r
  | refused r => exact .refused r

/-- Settles O48: no fetch and no operation looks at `acc` or `result`. -/
theorem accumulatorNeverRead : Obligations.AccumulatorNeverRead := by
  unfold Obligations.AccumulatorNeverRead
  intro s a r
  have h : ScratchBlind (step s) (step { s with acc := a, result := r }) := step_scratchBlind ⟨a, r, rfl⟩
  generalize step s = o at h ⊢
  generalize step { s with acc := a, result := r } = o' at h ⊢
  cases h with
  | next h => exact h
  | fault f => rfl
  | refused q => rfl

/-! ## Reset (R24, R116) -/

/-- Every bucket of a channel array of zeros. -/
theorem getElem_channels_zero (w k : Nat) (hk : k < numBuckets) : (Channels.zero w)[k] = Bucket.zero w := by
  simp [Channels.zero]

/-- The buckets of a channel array of zeros sum to 0. -/
theorem bucketSum_zero {w : Nat} {f : Bucket w → BitVec w} (hf : f (Bucket.zero w) = 0#w) :
    bucketSum f (Channels.zero w) = 0 := by
  simp [bucketSum, Channels.zero, hf]

theorem bucketSumMod_zero {w : Nat} {f : Bucket w → BitVec w} (hf : f (Bucket.zero w) = 0#w) :
    bucketSumMod f (Channels.zero w) = 0#w := by
  simp [bucketSumMod, Channels.zero, hf]

/-- The pattern of the block at reset is one R116 (1) accepts. -/
theorem syncOfReset_ne_zero : Config.syncOfReset ≠ 0#256 := by
  unfold Config.syncOfReset
  split
  · decide
  · assumption

/-- The defaults of R3 and R5 are a configuration R116 accepts. -/
theorem standard_accepted : configAccepted Config.standard = true := by
  have hl : layoutWellFormed Layout.standard = true := by decide
  simp [configAccepted, Config.standard, syncOfReset_ne_zero, hl, oorIndex]

theorem reset_specRun : SpecRun State.reset := ⟨fun _ h => (nomatch h), standard_accepted⟩

theorem reset_bufferInv : BufferInv State.reset := ⟨reset_buffer_wf, fun hr => nomatch hr⟩

theorem reset_fileSums : FileSums State.reset where
  alignedOk := bucketSum_zero rfl
  alignedError := bucketSum_zero rfl
  notAlignedOk := bucketSum_zero rfl
  notAlignedError := bucketSum_zero rfl
  overflowOk := congrArg Bucket.alignedOk (getElem_channels_zero 32 9 (by decide))
  overflowNotAligned _ :=
    have h := getElem_channels_zero 32 9 (by decide)
    ⟨congrArg Bucket.notAlignedOk h, congrArg Bucket.notAlignedError h⟩
  outOfRange := getElem_channels_zero 32 10 (by decide)
  badChannel := Nat.le_refl 0

theorem reset_runSums : RunSums State.reset where
  alignedOk := bucketSumMod_zero rfl
  alignedError := bucketSumMod_zero rfl
  notAlignedOk := bucketSumMod_zero rfl
  notAlignedError := bucketSumMod_zero rfl
  outOfRange := getElem_channels_zero 64 10 (by decide)

theorem reset_counterInv : CounterInv State.reset where
  spec := reset_specRun
  cleared _ := ⟨rfl, rfl⟩
  position hr := nomatch hr
  bounded hr := nomatch hr
  fileSums := reset_fileSums
  runSums := reset_runSums

/-- Settles O49: an IDLE block with an empty inbox, zero counters and an accepted configuration. -/
theorem invariantsHoldAtReset : Obligations.InvariantsHoldAtReset :=
  ⟨reset_specRun, windowInv_of_idle reset_specRun.hostOnly rfl, reset_bufferInv, reset_counterInv⟩

end Sys2Proof.Machine

/-!
The statements of 20_memory.md. Each operation keeps the buffer, loads it whole, or leaves it free and the block IDLE,
which gives the canonical form and the one sentinel of a drained buffer; the words and the payload bytes of a window's
frame are slices of the concatenation.
-/

namespace Sys2Proof.Machine

/-! ## What becomes of the buffer (R26, R57) -/

/-- What an operation does with the buffer: it keeps it and starts no drain; or it loads a read that fits; or it leaves
the contents free and the block IDLE. -/
inductive BufferMove (s t : State) : Prop
  | kept (buffer : t.buffer = s.buffer) (running : t.phase = .running → s.phase = .running)
  | loaded (raw : List Word) (fits : raw.length ≤ bufWords) (buffer : t.buffer = loadBuffer raw)
  | freed (draw : Nat) (buffer : t.buffer = ⟨.free draw, []⟩) (idle : t.phase = .idle)

theorem BufferMove.of_eq {s t : State} (hb : t.buffer = s.buffer) (hp : t.phase = s.phase) : BufferMove s t :=
  .kept hb fun hr => hp.symm.trans hr

/-- Each operation makes one of the three moves. -/
theorem exec_bufferMove {i : Instr} {s t : State} (h : exec i s = .next t) : BufferMove s t := by
  cases i with
  | asmLoad raw | hostRunBuffer raw =>
    simp only [exec, execAsmLoad, execHostRunBuffer] at h
    split at h
    · rename_i hfits
      cases h
      exact .loaded raw hfits rfl
    · cases h
  | hostReset =>
    cases h
    exact .freed s.freeDraws rfl rfl
  | eosFinalize =>
    cases h
    exact .kept rfl nofun
  | aDataError =>
    rw [exec, execADataError_eq] at h
    cases h
    exact .of_eq (reported_buffer ..) (reported_phase ..)
  | aLossCrc =>
    rw [exec, execALossCrc_eq] at h
    cases h
    exact .of_eq ((resumeAfterLoss_buffer _).trans (reported_buffer ..))
      ((resumeAfterLoss_phase _).trans (reported_phase ..))
  | aLossChannel =>
    rw [exec, execALossChannel_eq] at h
    cases h
    exact .of_eq (resumeAfterLoss_buffer _) (resumeAfterLoss_phase _)
  | badChannel channel flag crcOk =>
    rw [exec, execBadChannel, reportBadChannel_eq] at h
    cases h
    exact .of_eq rfl rfl
  | aDataOk | uDrOk | uDrError =>
    simp only [exec, execADataOk_eq, execUDrOk_eq, execUDrError_eq, andThen_eq_next, withBucket_eq_next] at h
    obtain ⟨_, ⟨-, rfl⟩, h⟩ := h
    cases h
    exact .of_eq rfl rfl
  | recAlignedOk k | recAlignedError k | recNotAlignedOk k | recNotAlignedError k =>
    obtain ⟨-, rfl⟩ := withBucket_eq_next.mp h
    exact .of_eq rfl rfl
  | _ =>
    cases h
    exact .of_eq rfl rfl

/-- A fetch that finds an operation writes `acc` and takes waiting words at most. -/
theorem fetch_run_eq {s u : State} {i : Instr} (h : fetch s = .run i u) :
    ∃ a rest, u = { s with acc := a, inbox := rest } := by
  rcases fetch_cases s with hw | ⟨ow, rest, -, hw, -⟩
  · rw [hw, fetchWindow] at h
    split at h
    · cases h
      obtain ⟨a, ha⟩ := evaluateWindow_eq s
      exact ⟨a, s.inbox, ha⟩
    · cases h
  · rw [hw] at h
    rcases fetchWord_cases ow { s with inbox := rest } with ⟨j, -, hj⟩ | ⟨-, hj⟩ | ⟨-, hj⟩ | ⟨-, hj⟩ <;>
      cases hj.symm.trans h
    exact ⟨s.acc, rest, rfl⟩

/-- Each step makes one of the three moves. -/
theorem step_bufferMove {s t : State} (h : step s = .next t) : BufferMove s t := by
  unfold step at h
  cases hf : fetch s with
  | run i u =>
    rw [hf] at h
    obtain ⟨a, rest, rfl⟩ := fetch_run_eq hf
    cases exec_bufferMove h with
    | kept buffer running => exact .kept buffer running
    | loaded raw fits buffer => exact .loaded raw fits buffer
    | freed draw buffer idle => exact .freed draw buffer idle
  | wait =>
    rw [hf] at h
    cases h
    exact .of_eq rfl rfl
  | fault r | refused r =>
    rw [hf] at h
    cases h

/-- Each of the three moves keeps the buffer invariant: a loaded buffer meets it whatever stood there before. -/
theorem BufferInv.of_move {s t : State} (hs : BufferInv s) (h : BufferMove s t) : BufferInv t := by
  cases h with
  | kept buffer running =>
    refine ⟨?_, fun hr => ?_⟩ <;> rw [buffer]
    · exact hs.canonical
    · exact hs.sentinel (running hr)
  | loaded raw fits buffer =>
    refine ⟨?_, fun _ => ?_⟩ <;> rw [buffer]
    · exact loadBuffer_wf fits
    · exact sentinel_loadBuffer fits
  | freed draw buffer idle =>
    refine ⟨?_, fun hr => nomatch idle.symm.trans hr⟩
    rw [buffer]
    exact freeBuffer_wf draw

/-- Settles O51: every step makes a move that keeps the invariant. -/
theorem bufferStaysCanonical : Obligations.BufferStaysCanonical := by
  unfold Obligations.BufferStaysCanonical
  intro s t hs h
  exact hs.of_move (step_bufferMove h)

/-! ## Word order and byte order (R27, R28) -/

/-- Word `j` of the frame, the first-read word most significant (R27): the words after it lie below its bits, and it
is the low end of what is left. -/
theorem frameOfWindow_word (v : Window) {j : Nat} (hj : j < 8) :
    (frameOfWindow v).extractLsb' (224 - 32 * j) 32 = windowWord v j := by
  unfold frameOfWindow
  interval_cases j <;>
    simp only [Nat.reduceMul, Nat.reduceSub, BitVec.extractLsb'_append_eq_of_le, Nat.reduceLeDiff,
      BitVec.extractLsb'_append_eq_right, BitVec.extractLsb'_eq_self, windowWord]

/-- A slice of a slice is a slice of the whole. -/
theorem extractLsb'_extractLsb'_of_add_le {n : Nat} (x : BitVec n) {start len start' len' : Nat}
    (h : start' + len' ≤ len) :
    (x.extractLsb' start len).extractLsb' start' len' = x.extractLsb' (start + start') len' := by
  apply BitVec.eq_of_getLsbD_eq
  intro i hi
  have hlen : start' + i < len := by omega
  simp [hi, hlen, Nat.add_assoc]

/-- Payload byte `k` of a window's frame is byte `k % 4` of word `k / 4`, most significant first (R28). -/
theorem payloadByte_frameOfWindow (v : Window) {k : Nat} (hk : k < 28) :
    payloadByte (frameOfWindow v) k = (windowWord v (k / 4)).extractLsb' (24 - 8 * (k % 4)) 8 := by
  have hstart : 224 - 32 * (k / 4) + (24 - 8 * (k % 4)) = 248 - 8 * k := by omega
  rw [← frameOfWindow_word v (by omega : k / 4 < 8), extractLsb'_extractLsb'_of_add_le _ (by omega), hstart]
  rfl

/-- The list of payload bytes, byte by byte. -/
theorem payloadBytes_getD (f : Frame) {k : Nat} (hk : k < 28) : (payloadBytes f).getD k 0#8 = payloadByte f k := by
  simp [payloadBytes, payloadLen, hk]

/-- Settles O8: the words of the concatenation, and the bytes as slices of the words. -/
theorem frameAndPayloadOrder : Obligations.FrameAndPayloadOrder := by
  unfold Obligations.FrameAndPayloadOrder
  intro v
  refine ⟨fun j hj => frameOfWindow_word v hj, rfl, fun k hk => ?_⟩
  rw [payloadBytes_getD _ hk, payloadByte_frameOfWindow v hk]

end Sys2Proof.Machine

/-!
The statements of 30_encoding.md. Each operand is read back from its words, which gives the round trip of the encoding;
the selector's rows are a list of which each value's filter leaves exactly one; the fields of a window's frame are slices
that lie in one word or go from one into the next; the frame of a stimulus line is a payload with a trailer.
-/

namespace Sys2Proof.Machine

/-! ## Operand words -/

/-- An operand of at most 32 bits is read back from its word. -/
theorem operandOf_operandWord {n : Nat} (hn : n ≤ 32) (v : BitVec n) : operandOf n (operandWord v) = some v := by
  have hv : (operandWord v).toNat < 2 ^ n := by
    rw [operandWord, BitVec.toNat_setWidth_of_le hn]
    exact v.isLt
  rw [operandOf, if_pos hv, operandWord, BitVec.setWidth_setWidth_of_le v hn, BitVec.setWidth_eq]

/-- A flag is read back from its word. -/
theorem flagOf_flagWord (b : Bool) : flagOf (flagWord b) = some b := by
  cases b <;> rfl

/-- A 32-bit slice extends the slice above it. -/
theorem extractLsb'_append_word {n : Nat} (x : BitVec n) (start len : Nat) :
    x.extractLsb' (start + 32) len ++ x.extractLsb' start 32 = x.extractLsb' start (len + 32) :=
  BitVec.extractLsb'_append_extractLsb'_eq_extractLsb' rfl

/-- A frame is read back from its eight words: each word joins the slice above it (R27). -/
theorem frameOf_frameWordsOf (f : Frame) : frameOf (frameWordsOf f) = some f := by
  simp only [frameOf, frameWordsOf]
  rw [extractLsb'_append_word f 192, extractLsb'_append_word f 160, extractLsb'_append_word f 128,
    extractLsb'_append_word f 96, extractLsb'_append_word f 64, extractLsb'_append_word f 32,
    extractLsb'_append_word f 0, BitVec.extractLsb'_eq_self]

/-- A decoded record is read back from its ten words, the running counter from two of them. -/
theorem decodedOf_decodedWordsOf (d : Decoded) : decodedOf (decodedWordsOf d) = some d := by
  have hrun : d.runningErrorCounter.extractLsb' 32 12 ++ d.runningErrorCounter.extractLsb' 0 32 =
      d.runningErrorCounter :=
    (extractLsb'_append_word d.runningErrorCounter 0 12).trans BitVec.extractLsb'_eq_self
  simp only [decodedOf, decodedWordsOf, flagOf_flagWord, operandOf_operandWord, Nat.reduceLeDiff,
    Option.bind_eq_bind, Option.bind_some, hrun]
  rfl

/-! ## Internal rows -/

/-- An internal row decodes to the operation its operand words stand for. -/
theorem decode_internal {row : InternalRow} {operands : List Word} {i : Instr}
    (h : internalOf row operands = some i) : decode (.internal row operands) = .ok i := by
  simp only [decode, decodeInternal, h]

theorem internalOf_badChannel (channel : Chan) (flag crcOk : Bool) :
    internalOf .badChannel [operandWord channel, flagWord flag, flagWord crcOk] =
      some (.badChannel channel flag crcOk) := by
  simp only [internalOf, operandOf_operandWord (by decide : 4 ≤ 32), flagOf_flagWord, Option.bind_eq_bind,
    Option.bind_some]
  rfl

theorem internalOf_decClassify (d : Decoded) (crcOk : Bool) (computed : Word) :
    internalOf .decClassify (flagWord crcOk :: computed :: decodedWordsOf d) =
      some (.decClassify d crcOk computed) := by
  simp only [internalOf, flagOf_flagWord, decodedOf_decodedWordsOf, Option.bind_eq_bind, Option.bind_some]
  rfl

/-- Settles O25: each format's decoder reads back what the encoder put in place. -/
theorem decodeOfEncode : Obligations.DecodeOfEncode := by
  unfold Obligations.DecodeOfEncode
  intro i
  cases i with
  | ckUpdate b acc =>
    exact decode_internal (by simp only [internalOf, operandOf_operandWord (by decide : 8 ≤ 32), Option.map_some])
  | ckCompute f | ckVerify f | decExtract f =>
    exact decode_internal (by simp only [internalOf, frameOf_frameWordsOf, Option.map_some])
  | asmLoad raw => exact decode_internal rfl
  | asmEos p | asmNextFrame p | asmSlide p =>
    exact decode_internal (by simp only [internalOf, operandOf_operandWord (by decide : 16 ≤ 32), Option.map_some])
  | badChannel channel flag crcOk => exact decode_internal (internalOf_badChannel channel flag crcOk)
  | decClassify d crcOk computed => exact decode_internal (internalOf_decClassify d crcOk computed)
  | decErrorRecord d computed =>
    exact decode_internal (by simp only [internalOf, decodedOf_decodedWordsOf, Option.map_some])
  | recAlignedOk k | recAlignedError k | recNotAlignedOk k | recNotAlignedError k | recBadChannelId k =>
    obtain ⟨halignedOk, halignedError, hnotAlignedOk, hnotAlignedError, hbadChannelId⟩ := decodeCmd_statsWord k
    assumption
  | _ => rfl

/-! ## Step selector -/

/-- The rows are complete and disjoint: each of the 128 values lies in exactly one (R45). -/
theorem selRows_filter_singleton (sel : BitVec 7) : ∃ r, selRows.filter (rowApplies sel) = [r] := by
  rw [← List.length_eq_one_iff]
  revert sel; decide

theorem rowApplies_eq_true {sel : BitVec 7} {r : SelRow} : rowApplies sel r = true ↔ sel &&& r.mask = r.value :=
  beq_iff_eq

/-- The row of a selector value: the operation selected is its operation, and no other row applies. -/
theorem exists_selRow (sel : BitVec 7) : ∃ r ∈ selRows, sel &&& r.mask = r.value ∧ decodeSel sel = r.op ∧
    ∀ r' ∈ selRows, sel &&& r'.mask = r'.value → r' = r := by
  obtain ⟨r, hr⟩ := selRows_filter_singleton sel
  have hmem : ∀ r', r' ∈ selRows ∧ sel &&& r'.mask = r'.value ↔ r' = r := fun r' => by
    rw [← rowApplies_eq_true, ← List.mem_filter, hr, List.mem_singleton]
  have hfind : selRows.find? (rowApplies sel) = some r := by
    rw [← List.head?_filter, hr, List.head?_cons]
  obtain ⟨hrow, happlies⟩ := (hmem r).mpr rfl
  exact ⟨r, hrow, happlies, by rw [decodeSel, hfind], fun r' hrow' happlies' => (hmem r').mp ⟨hrow', happlies'⟩⟩

/-- No two rows have the same operation. -/
theorem selRows_op_nodup : (selRows.map SelRow.op).Nodup := by decide

/-- A selector value selects a row's operation just where the row applies to it. -/
theorem decodeSel_eq_op_iff {r : SelRow} (hr : r ∈ selRows) (sel : BitVec 7) :
    decodeSel sel = r.op ↔ sel &&& r.mask = r.value := by
  obtain ⟨r', hr', happlies, hop, honly⟩ := exists_selRow sel
  constructor
  · intro h
    rwa [← List.inj_on_of_nodup_map selRows_op_nodup hr' hr (hop.symm.trans h)]
  · intro h
    rw [hop, honly r hr h]

/-- The seven bits of a concatenation, the first most significant. -/
theorem getLsbD_selectorBits (b6 b5 b4 b3 b2 b1 b0 : Bool) :
    let sel := bit b6 ++ bit b5 ++ bit b4 ++ bit b3 ++ bit b2 ++ bit b1 ++ bit b0
    sel.getLsbD 6 = b6 ∧ sel.getLsbD 5 = b5 ∧ sel.getLsbD 4 = b4 ∧ sel.getLsbD 3 = b3 ∧ sel.getLsbD 2 = b2 ∧
      sel.getLsbD 1 = b1 ∧ sel.getLsbD 0 = b0 := by
  revert b6 b5 b4 b3 b2 b1 b0; decide

theorem selector_of_eos {s : State} (h : eosAt s.p = true) : selector s = 0x40#7 := by
  rw [selector, if_pos h]

theorem selector_of_window {s : State} (h : eosAt s.p = false) : selector s =
    bit false ++ bit (alignedBit s.alignment) ++ bit (syncHere s) ++ bit (errorFlagOf s.frame) ++
      bit (checksHere s && crcOkOf s.frame) ++ bit (checksHere s && channelValid s.decoded.channel) ++
      bit (reckonsHere s && residueHere s) := by
  rw [selector, h, if_neg Bool.false_ne_true]

/-- Bit 6 is the end-of-stream test (R45, R58). -/
theorem selector_bit6 (s : State) : (selector s).getLsbD 6 = eosAt s.p := by
  cases h : eosAt s.p with
  | true => rw [selector_of_eos h]; rfl
  | false => rw [selector_of_window h]; exact (getLsbD_selectorBits ..).1

theorem alignedBit_eq_decide (a : Alignment) : alignedBit a = decide (a = .aligned) := by
  cases a <;> rfl

/-- `dr_phase` is computed just where the block is UNALIGNED and the window is not SYNC_PATTERN (R62). -/
theorem reckonsHere_iff (s : State) :
    reckonsHere s = true ↔ s.alignment = .unaligned ∧ s.frame ≠ s.config.syncPattern := by
  rw [reckonsHere, Bool.and_eq_true, Bool.not_eq_true', Bool.not_eq_true', syncHere_eq_false]
  cases s.alignment <;> simp [alignedBit]

/-- Settles O18: the bits of the concatenation under their enabling conditions, and the rows one by one. -/
theorem selectorBitsAndRows : Obligations.SelectorBitsAndRows := by
  unfold Obligations.SelectorBitsAndRows
  refine ⟨selector_bit6, fun s hp => ?_, exists_selRow, fun sel => ?_⟩
  · rw [selector_of_window (eosAt_eq_false.mpr hp)]
    obtain ⟨-, haligned, hsync, hflag, hcrcOk, hchValid, hdrPhase⟩ := getLsbD_selectorBits false
      (alignedBit s.alignment) (syncHere s) (errorFlagOf s.frame) (checksHere s && crcOkOf s.frame)
      (checksHere s && channelValid s.decoded.channel) (reckonsHere s && residueHere s)
    refine ⟨haligned.trans (alignedBit_eq_decide _), hsync.trans (beq_eq_decide _ _), hflag, fun ha hs => ?_,
      fun hu hs => ?_⟩
    · have hchecks : checksHere s = true := (checksHere_iff s).mpr ⟨ha, hs⟩
      rw [hcrcOk, hchValid, hchecks]
      exact ⟨rfl, rfl⟩
    · have hreckons : reckonsHere s = true := (reckonsHere_iff s).mpr ⟨hu, hs⟩
      rw [hdrPhase, hreckons]
      rfl
  · have hrows : ∀ r ∈ selRows, (decodeSel sel = r.op ↔ sel &&& r.mask = r.value) :=
      fun r hr => decodeSel_eq_op_iff hr sel
    simpa only [selRows, List.forall_mem_cons, List.not_mem_nil, false_imp_iff, implies_true, and_true] using hrows

/-! ## Fields of a frame in words (R41) -/

/-- A slice of a frame that lies in word `j` is that slice of the word. -/
theorem extractLsb'_frameOfWindow (v : Window) (j start len : Nat) (hj : j < 8) (h : start + len ≤ 32) :
    (frameOfWindow v).extractLsb' (224 - 32 * j + start) len = (windowWord v j).extractLsb' start len := by
  rw [← frameOfWindow_word v hj, extractLsb'_extractLsb'_of_add_le _ h]

/-- A slice of a frame that goes from word `j` into the next: the `high` lowest bits of the one, then the `low` highest
bits of the other. -/
theorem extractLsb'_frameOfWindow_two (v : Window) (j high low : Nat) (hj : j < 7) (hhigh : high ≤ 32)
    (hlow : low ≤ 32) :
    (frameOfWindow v).extractLsb' (224 - 32 * j - low) (high + low) =
      (windowWord v j).extractLsb' 0 high ++ (windowWord v (j + 1)).extractLsb' (32 - low) low := by
  have hstart : 224 - 32 * (j + 1) + (32 - low) = 224 - 32 * j - low := by omega
  rw [← extractLsb'_frameOfWindow v j 0 high (by omega) (by omega),
    ← extractLsb'_frameOfWindow v (j + 1) (32 - low) low (by omega) (by omega), hstart,
    BitVec.extractLsb'_append_extractLsb'_eq_extractLsb' (by omega)]

/-- error_flag is the highest bit of the leading word. -/
theorem errorFlagOf_frameOfWindow (v : Window) : errorFlagOf (frameOfWindow v) = v.w0.getLsbD 31 := by
  rw [← frameOfWindow_leading v, BitVec.getLsbD_extractLsb']
  rfl

/-- The running counter spans three words: the lowest bit of word 3, word 4, the 11 highest bits of word 5. -/
theorem runningErrorCounter_frameOfWindow (v : Window) :
    (frameOfWindow v).extractLsb' 85 44 = v.w3.extractLsb' 0 1 ++ v.w4 ++ v.w5.extractLsb' 21 11 := by
  have hupper : (frameOfWindow v).extractLsb' 96 33 = v.w3.extractLsb' 0 1 ++ v.w4.extractLsb' 0 32 :=
    extractLsb'_frameOfWindow_two v 3 1 32 (by decide) (by decide) (by decide)
  have hlower : (frameOfWindow v).extractLsb' 85 11 = v.w5.extractLsb' 21 11 :=
    extractLsb'_frameOfWindow v 5 21 11 (by decide) (by decide)
  have hsplit : (frameOfWindow v).extractLsb' 96 33 ++ (frameOfWindow v).extractLsb' 85 11 =
      (frameOfWindow v).extractLsb' 85 44 :=
    BitVec.extractLsb'_append_extractLsb'_eq_extractLsb' (by decide)
  rw [← hsplit, hupper, hlower, BitVec.extractLsb'_eq_self]

/-- Settles O27: each field in its one, two or three words. -/
theorem defaultLayoutWordBits : Obligations.DefaultLayoutWordBits := by
  unfold Obligations.DefaultLayoutWordBits
  intro v
  exact ⟨errorFlagOf_frameOfWindow v,
    extractLsb'_frameOfWindow v 0 24 4 (by decide) (by decide),
    extractLsb'_frameOfWindow_two v 0 24 3 (by decide) (by decide) (by decide),
    extractLsb'_frameOfWindow v 1 18 11 (by decide) (by decide),
    extractLsb'_frameOfWindow_two v 1 18 9 (by decide) (by decide) (by decide),
    extractLsb'_frameOfWindow_two v 2 23 4 (by decide) (by decide) (by decide),
    extractLsb'_frameOfWindow v 3 1 27 (by decide) (by decide),
    runningErrorCounter_frameOfWindow v,
    frameOfWindow_word v (by decide : 7 < 8)⟩

/-! ## The frame of a stimulus line (R51) -/

/-- The payload of a line's frame does not depend on its trailer. -/
theorem packFrame_eq_append (flag : Bool) (d : StimFields) :
    ∃ payload : BitVec 224, ∀ crc, packFrame flag d crc = payload ++ crc :=
  ⟨_, fun _ => rfl⟩

/-- A frame with the `good` trailer verifies. -/
theorem crcOkOf_packFrame_good (flag : Bool) (d : StimFields) :
    crcOkOf (packFrame flag d (stimTrailer flag d .good)) = true := by
  obtain ⟨payload, hpack⟩ := packFrame_eq_append flag d
  rw [stimTrailer, hpack, hpack, crcOkOf_append, decide_eq_true rfl]

/-- A frame with the `bad` trailer does not: the trailer differs from the checksum in its lowest bit. -/
theorem crcOkOf_packFrame_bad (flag : Bool) (d : StimFields) :
    crcOkOf (packFrame flag d (stimTrailer flag d .bad)) = false := by
  obtain ⟨payload, hpack⟩ := packFrame_eq_append flag d
  rw [stimTrailer, hpack, hpack, crcOkOf_append, decide_eq_false_iff_not]
  intro h
  have hxor : checksumOf (payload ++ 0#32) ^^^ 0#32 = checksumOf (payload ++ 0#32) ^^^ 1#32 := by
    rwa [BitVec.xor_zero]
  exact absurd ((BitVec.xor_right_inj _).mp hxor) (by decide)

/-- The flag of a line is the highest bit of its frame. -/
theorem errorFlagOf_packFrame (flag : Bool) (d : StimFields) (crc : Word) :
    errorFlagOf (packFrame flag d crc) = flag := by
  simp only [errorFlagOf, packFrame, BitVec.getLsbD_append, Nat.reduceLT, Nat.reduceSub, if_false]
  cases flag <;> rfl

/-- Under the default LAYOUT each field is read back from its place: below it lie the fields packed after it. -/
theorem extractFields_packFrame (flag : Bool) (d : StimFields) (crc : Word) :
    extractFields Layout.standard (packFrame flag d crc) =
      { errorFlag := flag, channel := d.ch, timestamp := d.ts, injectedError := d.inj, expectedCode := d.exp,
        receivedCode := d.rcv, errorPosition := d.pos, runningErrorCounter := d.run, embeddedCrc := crc } := by
  rw [extractFields, errorFlagOf_packFrame]
  simp only [Layout.standard, channelOf, embeddedCrcOf, packFrame, BitVec.extractLsb'_append_eq_of_le,
    Nat.reduceLeDiff, Nat.reduceSub, BitVec.extractLsb'_append_eq_right]

/-- Settles O31: the fields read back, and the two trailers. -/
theorem stimulusFramesDecode : Obligations.StimulusFramesDecode := by
  unfold Obligations.StimulusFramesDecode
  exact fun flag d crc =>
    ⟨extractFields_packFrame flag d crc, crcOkOf_packFrame_good flag d, crcOkOf_packFrame_bad flag d⟩

/-! ## Words of the tables -/

/-- Settles O24: the decoder, run on each word. -/
theorem tableWordsDecode : Obligations.TableWordsDecode := by
  unfold Obligations.TableWordsDecode
  exact ⟨rfl, rfl, rfl, rfl, rfl, rfl, rfl, rfl, rfl⟩

/-! ## From a channel to a bucket (R44) -/

theorem route_of_valid {ch : Chan} (h : ch.toNat < 9) : route ch = ch := by
  rw [route, if_pos (channelValid_eq_true.mpr h)]

theorem route_of_invalid {ch : Chan} (h : 9 ≤ ch.toNat) : route ch = 9#4 := by
  rw [route, channelValid_eq_false.mpr h, if_neg Bool.false_ne_true]
  rfl

theorem clamp_of_valid (c : Config) {ch : Chan} (h : ch.toNat < 9) : clamp c ch = ch := by
  rw [clamp, if_pos (channelValid_eq_true.mpr h)]

theorem clamp_of_invalid {c : Config} {ch : Chan} (h : 9 ≤ ch.toNat) (hc : c.drClamp ≠ 10) :
    clamp c ch = BitVec.ofNat 4 c.drClamp := by
  have ho : c.drClamp ≠ oorIndex.toNat := hc
  rw [clamp, channelValid_eq_false.mpr h, if_neg Bool.false_ne_true, if_neg ho]

/-- Settles O37: each way on valid and on invalid channels, and the bounds, which `clamp_cases` gives for a block that
is built. -/
theorem routeAndClampBuckets : Obligations.RouteAndClampBuckets := by
  unfold Obligations.RouteAndClampBuckets
  intro c ch
  refine ⟨fun h => ⟨route_of_valid h, clamp_of_valid c h⟩,
    fun h => ⟨route_of_invalid h, clamp_of_invalid h, fun hc => ?_⟩, ?_, fun hc => ?_, fun hc => ?_⟩
  · have := clamp_cases (Nat.le_of_eq hc) ch
    omega
  · rcases Nat.lt_or_ge ch.toNat 9 with h | h
    · rw [route_of_valid h]; omega
    · rw [route_of_invalid h]; decide
  · have := clamp_cases (Nat.le_of_lt hc) ch
    omega
  · exact Nat.le_of_lt_succ (clamp_lt_of_accepted hc ch)

end Sys2Proof.Machine

/-!
The statements of 40_checksum_verifier.md. A frame is its payload with its trailer, so its checksum is that of the payload
with any trailer; the three operations answer it from every state; and no outcome of a window writes `acc`, so a window
step leaves there what STEP's evaluation left.
-/

namespace Sys2Proof.Machine

/-! ## The checksum of a frame (R53, R56 (2)) -/

/-- The checksum as one left fold over the byte positions of the frame, byte 0 first (R53). -/
theorem checksumOf_eq_foldl (f : Frame) : checksumOf f =
    (List.range 28).foldl (fun acc k => Config.crcUpdate (f.extractLsb' (248 - 8 * k) 8) acc) 0xFFFFFFFF#32 :=
  List.foldl_map

/-- A frame is its payload with its trailer. -/
theorem payload_append_trailer (f : Frame) : f.extractLsb' 32 224 ++ f.extractLsb' 0 32 = f := by
  rw [BitVec.extractLsb'_append_extractLsb'_eq_extractLsb' (by decide)]
  exact BitVec.extractLsb'_eq_self

/-- The checksum is that of the payload, whatever trailer follows it. -/
theorem checksumOf_payload_append (f : Frame) (w : Word) : checksumOf (f.extractLsb' 32 224 ++ w) = checksumOf f := by
  rw [checksumOf_append _ w (f.extractLsb' 0 32), payload_append_trailer]

/-- Two frames with the same payload have the same checksum. -/
theorem checksumOf_congr {f g : Frame} (h : f.extractLsb' 32 224 = g.extractLsb' 32 224) :
    checksumOf f = checksumOf g := by
  rw [← checksumOf_payload_append f 0#32, h, checksumOf_payload_append]

/-- `crc_ok` compares the checksum with the trailer in all 32 bits (R54). -/
theorem crcOkOf_eq_decide (f : Frame) : crcOkOf f = decide (checksumOf f = f.extractLsb' 0 32) :=
  beq_eq_decide ..

/-- A frame's payload verifies with another trailer just where that is the frame's checksum. -/
theorem crcOkOf_payload_append (f : Frame) (w : Word) :
    crcOkOf (f.extractLsb' 32 224 ++ w) = decide (checksumOf f = w) := by
  rw [crcOkOf_append, checksumOf_payload_append]

/-- A word whose lowest bit is flipped is another word. -/
theorem ne_xor_one (w : Word) : w ≠ w ^^^ 1#32 := by
  intro h
  have hbit : w ^^^ 0#32 = w ^^^ 1#32 := by rwa [BitVec.xor_zero]
  exact absurd ((BitVec.xor_right_inj w).mp hbit) (by decide)

/-! ## The fold over bytes (R56 (3)) -/

/-- The fold over a concatenation goes on from where the first list leaves the accumulator. -/
theorem foldBytes_append (update : Byte → Word → Word) (seed : Word) (xs ys : List Byte) :
    foldBytes update seed (xs ++ ys) = foldBytes update (foldBytes update seed xs) ys :=
  List.foldl_append

/-! ## The operations by themselves (R52, R53, R54) -/

theorem exec_ckUpdate (b : Byte) (acc : Word) (s : State) : exec (.ckUpdate b acc) s =
    .next { s with acc := Config.crcUpdate b acc, result := .checksum (Config.crcUpdate b acc) } := rfl

theorem exec_ckCompute (f : Frame) (s : State) : exec (.ckCompute f) s =
    .next { s with acc := checksumOf f, result := .checksum (checksumOf f) } := rfl

theorem exec_ckVerify (f : Frame) (s : State) : exec (.ckVerify f) s =
    .next { s with acc := checksumOf f, result := .verify (crcOkOf f) (checksumOf f) } := rfl

/-- CK_VERIFY of a frame's payload with the trailer `CK_COMPUTE(F) xor 1` answers the frame's checksum and that it
does not verify (R56 (4)). -/
theorem exec_ckVerify_flipped (f : Frame) (s : State) :
    exec (.ckVerify (f.extractLsb' 32 224 ++ (checksumOf f ^^^ 1#32))) s =
      .next { s with acc := checksumOf f, result := .verify false (checksumOf f) } := by
  rw [exec_ckVerify, crcOkOf_payload_append, checksumOf_payload_append, decide_eq_false (ne_xor_one _)]

/-- Settles O1: each operation's answer, with the checksum as the fold over the byte positions. -/
theorem checksumOperationsAnswer : Obligations.ChecksumOperationsAnswer := by
  unfold Obligations.ChecksumOperationsAnswer
  refine ⟨fun b acc s => ⟨_, exec_ckUpdate b acc s⟩, fun f s => ?_⟩
  simp only [← checksumOf_eq_foldl, ← crcOkOf_eq_decide]
  exact ⟨⟨_, exec_ckCompute f s⟩, ⟨_, exec_ckVerify f s⟩⟩

/-- Settles O2: the answer is the frame's checksum in every state; the checksum is that of the payload; the fold over a
concatenation; and the flipped trailer. -/
theorem checksumLaws : Obligations.ChecksumLaws := by
  unfold Obligations.ChecksumLaws
  exact ⟨fun f s s' => ⟨_, _, exec_ckCompute f s, exec_ckCompute f s', rfl⟩, fun _ _ h => checksumOf_congr h,
    foldBytes_append Config.crcUpdate, fun f s => ⟨_, exec_ckVerify_flipped f s, rfl⟩⟩

/-! ## Where a window step evaluates the checksum (R55) -/

/-- No outcome of a window writes `acc`: STEP's evaluation has written it before. -/
theorem WindowOutcome.acc_eq {s t : State} (h : WindowOutcome s t) : t.acc = s.acc := by
  cases h with
  | aDataError => exact reported_acc ..
  | aLossCrc | aLossChannel => exact (resumeAfterLoss_acc _).trans (reported_acc ..)
  | eosFinalize | aFiller | uSync | aDataOk | uDrError | uDrOk | uSkip => rfl

/-- A window step leaves `acc` as STEP's evaluation leaves it. -/
theorem step_running_acc {s t : State} (hh : HostOnly s) (hr : s.phase = .running) (h : step s = .next t) :
    t.acc = (evaluateWindow s).acc :=
  (step_running_outcome hh hr h).acc_eq

/-- Settles O3: `acc` is what STEP's evaluation leaves, and on a whole window that is the frame's checksum just where
the block is ALIGNED and the window is not SYNC_PATTERN. -/
theorem checksumEvaluatedInAlignedNonSyncSteps : Obligations.ChecksumEvaluatedInAlignedNonSyncSteps := by
  unfold Obligations.ChecksumEvaluatedInAlignedNonSyncSteps
  intro s t hh hr he h
  rw [step_running_acc hh hr h, evaluateWindow_eq_acc]
  simp only [he, true_and]

end Sys2Proof.Machine

/-!
The statements of 41_frame_assembler.md. The four operations by themselves follow from what ASM_LOAD's buffer and the
window hold. For R61, a window step of a run always answers, either ends the buffer or moves the position forward, and
the windows left to scan bound the steps.
-/

namespace Sys2Proof.Machine

/-! ## ASM_LOAD (R57) -/

theorem exec_asmLoad_of_le {raw : List Word} (h : raw.length ≤ bufWords) (s : State) :
    exec (.asmLoad raw) s = .next (loadRead raw s) := if_pos h

theorem exec_asmLoad_of_gt {raw : List Word} (h : bufWords < raw.length) (s : State) :
    exec (.asmLoad raw) s = .refused .oversizeRead := if_neg (Nat.not_le.mpr h)

/-- Before the sentinel ASM_LOAD's buffer holds the read and its padding of zero-words. -/
theorem bufferRead_loadBuffer_of_lt {raw : List Word} (h : raw.length ≤ bufWords) {i : Nat} (hi : i < bufWords) :
    bufferRead (loadBuffer raw) i = dataToken (raw.getD i 0#32) := by
  rw [bufferRead_loadBuffer h]
  split
  · rfl
  · rename_i hpad
    rw [if_neg (Nat.ne_of_lt hi), List.getD_eq_default _ _ (Nat.le_of_not_lt hpad)]

/-- The sentinel stands at BUF_WORDS. -/
theorem bufferRead_loadBuffer_bufWords {raw : List Word} (h : raw.length ≤ bufWords) :
    bufferRead (loadBuffer raw) bufWords = sentinelToken := by
  rw [bufferRead_loadBuffer h, if_neg (Nat.not_lt.mpr h), if_pos rfl]

/-- The first window is the first eight words of the read. -/
theorem windowWord_loadRead {raw : List Word} (h : raw.length ≤ bufWords) (s : State) {j : Nat} (hj : j < frameWords) :
    windowWord (loadRead raw s).window j = raw.getD j 0#32 := by
  have hjb : j < bufWords := Nat.lt_trans hj (by decide)
  rw [loadRead_window, windowWord_windowAt _ _ j hj, Nat.zero_add, bufferRead_loadBuffer_of_lt h hjb,
    tokenWord_dataToken]

/-- Settles O4: the elements below the sentinel, the sentinel, the first window, and the refusal. -/
theorem asmLoadBuildsBuffer : Obligations.AsmLoadBuildsBuffer := by
  unfold Obligations.AsmLoadBuildsBuffer
  refine fun raw s => ⟨fun h => ⟨_, exec_asmLoad_of_le h s, fun i hi => ?_, fun i hlo hi => ?_,
    bufferRead_loadBuffer_bufWords h, fun j hj => windowWord_loadRead h s hj, rfl⟩, fun h => exec_asmLoad_of_gt h s⟩
  · exact bufferRead_loadBuffer_of_lt h (Nat.lt_of_lt_of_le hi h)
  · have hpad := bufferRead_loadBuffer_of_lt h hi
    rwa [List.getD_eq_default _ _ hlo] at hpad

/-! ## ASM_EOS (R58) -/

/-- Settles O5: the end-of-stream test is on the exact sum. -/
theorem asmEosTestsPosition : Obligations.AsmEosTestsPosition := by
  unfold Obligations.AsmEosTestsPosition
  exact fun p s => rfl

/-! ## ASM_NEXT_FRAME and ASM_SLIDE (R59, R60) -/

/-- Settles O6: the window at the new position, or the old one where none stands there. -/
theorem asmNextFrameAdvances : Obligations.AsmNextFrameAdvances := by
  unfold Obligations.AsmNextFrameAdvances
  refine fun p s => ⟨(advanceFrame p s).window, rfl, fun hw j hj => ?_, fun he => if_pos (eosAt_eq_true.mpr he)⟩
  rw [advanceFrame_window, eosAt_eq_false.mpr hw, if_neg Bool.false_ne_true, windowWord_windowAt _ _ j hj]

/-- Settles O7: the shifted window, or the old one where none stands at the new position. -/
theorem asmSlideAdvances : Obligations.AsmSlideAdvances := by
  unfold Obligations.AsmSlideAdvances
  refine fun p s => ⟨(slideWord p s).window, rfl, fun hw => ?_, fun he => if_pos (eosAt_eq_true.mpr he)⟩
  rw [slideWord_window, eosAt_eq_false.mpr hw, if_neg Bool.false_ne_true]
  refine ⟨fun j hj => ?_, rfl⟩
  rw [windowWord_shiftWindow _ _ (Nat.lt_succ_of_lt hj), if_neg (Nat.ne_of_lt hj)]

/-! ## A window step of a run always answers -/

/-- The operation a window selects answers a next state under an accepted configuration: the selection has made sure of
A_DATA_OK's bucket, and R116 (4) of the clamped one. -/
theorem exists_exec_selectedOp {s : State} (ha : configAccepted s.config = true) :
    ∃ t, exec (selectedOp s) s = .next t := by
  have hclamp : (clamp s.config (tentativeChannel s.frame)).toNat < numBuckets :=
    clamp_legal (drClamp_le_of_accepted ha) _
  rw [selectedOp_tree]
  split_ifs with he hs halign halign hf hc hv hr hf
  · exact ⟨_, execEosFinalize_eq s⟩
  · exact ⟨_, execAFiller_eq s⟩
  · exact ⟨_, execUSync_eq s⟩
  · exact ⟨_, execADataError_eq s⟩
  · have hk : s.decoded.channel.toNat < numBuckets :=
      Nat.lt_trans (channelValid_eq_true.mp hv) (by decide)
    exact ⟨_, by rw [exec, execADataOk_eq, withBucket_of_legal hk, andThen_next]⟩
  · exact ⟨_, execALossChannel_eq s⟩
  · exact ⟨_, execALossCrc_eq s⟩
  · exact ⟨_, by rw [exec, execUDrError_eq, withBucket_of_legal hclamp, andThen_next]⟩
  · exact ⟨_, by rw [exec, execUDrOk_eq, withBucket_of_legal hclamp, andThen_next]⟩
  · exact ⟨_, execUSkip_eq s⟩

/-- Every window step of a run as the spec has it answers a next state. -/
theorem SpecRun.exists_step_running {s : State} (hs : SpecRun s) (hr : s.phase = .running) :
    ∃ t, step s = .next t := by
  have hc : configAccepted (evaluateWindow s).config = true := by rw [evaluateWindow_config]; exact hs.accepted
  obtain ⟨t, ht⟩ := exists_exec_selectedOp hc
  rw [selectedOp_evaluateWindow] at ht
  exact ⟨t, by rw [step, fetch_running hs.hostOnly hr]; exact ht⟩

/-! ## Every buffer ends (R61, R136) -/

/-- A window step that is not the last goes on with the same run, further on in the buffer. -/
theorem SpecRun.step_window {s t : State} (hs : SpecRun s) (hr : s.phase = .running) (hw : eosAt s.p = false)
    (h : step s = .next t) : SpecRun t ∧ t.phase = .running ∧ s.p.toNat < t.p.toNat := by
  have haccepted : configAccepted t.config = true := by rw [step_keepsConfig s t h]; exact hs.accepted
  have hp := eosAt_eq_false.mp hw
  have hmove : t.inbox = s.inbox ∧ t.phase = s.phase ∧ s.p.toNat < t.p.toNat := by
    cases step_streamMove hs.hostOnly hr hw h with
    | frame stands =>
      refine ⟨stands.inbox, stands.phase, ?_⟩
      rw [stands.p, advanceFrame_p, toNat_add_of_window hp (Nat.le_refl 8)]
      omega
    | word stands =>
      refine ⟨stands.inbox, stands.phase, ?_⟩
      rw [stands.p, slideWord_p, toNat_add_of_window hp (by decide)]
      omega
  obtain ⟨hinbox, hphase, hforward⟩ := hmove
  exact ⟨⟨by unfold HostOnly; rw [hinbox]; exact hs.hostOnly, haccepted⟩, hphase.trans hr, hforward⟩

/-- A window step of a run ends the buffer, or a whole window stood there and the run goes on further in the buffer. -/
theorem SpecRun.step_running {s : State} (hs : SpecRun s) (hr : s.phase = .running) :
    ∃ t, step s = .next t ∧ (t.phase = .idle ∨
      s.p.toNat + 8 ≤ 50000 ∧ SpecRun t ∧ t.phase = .running ∧ s.p.toNat < t.p.toNat) := by
  obtain ⟨t, ht⟩ := hs.exists_step_running hr
  refine ⟨t, ht, ?_⟩
  cases he : eosAt s.p with
  | true => exact .inl (step_endOfStream hs.hostOnly hr he ht).1
  | false => exact .inr ⟨eosAt_eq_false.mp he, hs.step_window hr he ht⟩

/-- With at most `n` windows left from the position on, a RUNNING state of a run is IDLE after at most `n + 1` steps:
each step but the last leaves fewer windows. -/
theorem SpecRun.run_to_idle (n : Nat) {s : State} (hs : SpecRun s) (hr : s.phase = .running)
    (hn : 49993 ≤ s.p.toNat + n) :
    ∃ (k : Nat) (t : State), k ≤ n + 1 ∧ Host.Core.run Sys2Proof.core k s = .next t ∧ t.phase = .idle := by
  induction n generalizing s with
  | zero =>
    obtain ⟨t, ht, hidle | ⟨hw, -⟩⟩ := hs.step_running hr
    · exact ⟨1, t, Nat.le_refl 1, core_run_next 0 ht, hidle⟩
    · omega
  | succ n ih =>
    obtain ⟨t, ht, hidle | ⟨-, hst, hrt, hforward⟩⟩ := hs.step_running hr
    · exact ⟨1, t, Nat.le_add_left .., core_run_next 0 ht, hidle⟩
    · obtain ⟨k, u, hk, hrun, hidle⟩ := ih hst hrt (by omega)
      exact ⟨k + 1, u, Nat.succ_le_succ hk, (core_run_next k ht).trans hrun, hidle⟩

/-- Settles O56: from any position at most 49993 windows are left. -/
theorem everyBufferEnds : Obligations.EveryBufferEnds := by
  unfold Obligations.EveryBufferEnds
  exact fun s hs hr => hs.run_to_idle 49993 hr (Nat.le_add_left ..)

end Sys2Proof.Machine

/-!
The statements of 42_frame_sync_fsm.md. Each step outcome is a composition of a statistics command, an event and a move of
the position, each of which answers a next state; the selection is the selector's row as a decision tree; the transitions
of `aligned` and the events of a window are read off the inversion of a window step.
-/

namespace Sys2Proof.Machine

/-! ## Rows of the selector (R45) -/

/-- A selector value selects an operation just where the operation's row applies to it. -/
theorem decodeSel_eq_iff {mask value : BitVec 7} {op : Instr} (hr : (⟨mask, value, op⟩ : SelRow) ∈ selRows)
    (sel : BitVec 7) : decodeSel sel = op ↔ sel &&& mask = value :=
  decodeSel_eq_op_iff hr sel

/-! ## The parts of an outcome, run -/

theorem exec_recAlignedOk_of_legal {k : Chan} (h : k.toNat < numBuckets) (s : State) :
    exec (.recAlignedOk k) s = .next (countAlignedOk k s) := withBucket_of_legal h

theorem exec_recAlignedError_of_legal {k : Chan} (h : k.toNat < numBuckets) (s : State) :
    exec (.recAlignedError k) s = .next (countAlignedError k s) := withBucket_of_legal h

theorem exec_recNotAlignedOk_of_legal {k : Chan} (h : k.toNat < numBuckets) (s : State) :
    exec (.recNotAlignedOk k) s = .next (countNotAlignedOk k s) := withBucket_of_legal h

theorem exec_recNotAlignedError_of_legal {k : Chan} (h : k.toNat < numBuckets) (s : State) :
    exec (.recNotAlignedError k) s = .next (countNotAlignedError k s) := withBucket_of_legal h

theorem exec_badChannel (channel : Chan) (flag crcOk : Bool) (s : State) : exec (.badChannel channel flag crcOk) s =
    .next (emit (.badChannel ⟨channel, flag, if flag then false else crcOk, s.p⟩) (countBadChannelId s)) :=
  reportBadChannel_eq channel flag crcOk s

theorem execADataOk_of_legal {s : State} (h : s.decoded.channel.toNat < numBuckets) :
    execADataOk s = .next (advanceFrame s.p (countAlignedOk s.decoded.channel s)) := by
  rw [execADataOk_eq, withBucket_of_legal h]; rfl

theorem execUDrOk_of_legal {s : State} (h : (clamp s.config (tentativeChannel s.frame)).toNat < numBuckets) :
    execUDrOk s = .next (slideWord s.p (countNotAlignedOk (clamp s.config (tentativeChannel s.frame)) s)) := by
  rw [execUDrOk_eq, withBucket_of_legal h]; rfl

theorem execUDrError_of_legal {s : State} (h : (clamp s.config (tentativeChannel s.frame)).toNat < numBuckets) :
    execUDrError s = .next (slideWord s.p (countNotAlignedError (clamp s.config (tentativeChannel s.frame)) s)) := by
  rw [execUDrError_eq, withBucket_of_legal h]; rfl

/-- BAD_CHANNEL, run just where the window's channel is 9..15. -/
theorem exec_badChannel_if_invalid (flag crcOk : Bool) (s : State) :
    (if s.decoded.channel.toNat < 9 then Host.Outcome.next s else exec (.badChannel s.decoded.channel flag crcOk) s) =
      .next (reported flag crcOk s) := by
  rw [← reportIfInvalid_eq, reportIfInvalid]
  simp only [channelValid_eq_true]
  rfl

/-- The aligned path's bucket as a test of the channel (R44). -/
theorem route_eq_ite (ch : Chan) : route ch = if ch.toNat < 9 then ch else 9#4 := by
  split
  · exact route_of_valid ‹_›
  · exact route_of_invalid (Nat.le_of_not_lt ‹_›)

/-- The resumption after a loss is ASM_SLIDE under SLIDE and ASM_NEXT_FRAME under SKIP (R5). -/
theorem exec_resumeAfterLoss {s w : State} (hc : w.config = s.config) (hp : w.p = s.p) :
    (s.config.lossResume = .slide → exec (.asmSlide s.p) w = .next (resumeAfterLoss w)) ∧
      (s.config.lossResume = .skip → exec (.asmNextFrame s.p) w = .next (resumeAfterLoss w)) := by
  rw [← hc, ← hp]
  refine ⟨fun h => ?_, fun h => ?_⟩
  · rw [resumeAfterLoss_of_slide h]; rfl
  · rw [resumeAfterLoss_of_skip h]; rfl

/-! ## The outcomes (R65 to R74) -/

/-- Settles O12: BAD_CHANNEL where the channel is invalid, then the routed bucket, which is always legal. -/
theorem aDataErrorCountsAndReports : Obligations.ADataErrorCountsAndReports := by
  unfold Obligations.ADataErrorCountsAndReports
  refine ⟨decodeSel_eq_iff (by decide), fun s => ?_⟩
  rw [← route_eq_ite]
  exact ⟨_, _, _, exec_badChannel_if_invalid true false s, exec_recAlignedError_of_legal (route_legal _) _, rfl,
    reported_alignment true false s, execADataError_eq s⟩

/-- Settles O13: both losses, one after BAD_CHANNEL where the channel is invalid and one always after it, resume in the
same way. -/
theorem lossOutcomesLeaveAlignment : Obligations.LossOutcomesLeaveAlignment := by
  unfold Obligations.LossOutcomesLeaveAlignment
  refine ⟨fun sel => ⟨decodeSel_eq_iff (by decide) sel, decodeSel_eq_iff (by decide) sel⟩, fun s => ⟨?_, ?_⟩⟩
  · obtain ⟨hslide, hskip⟩ :=
      exec_resumeAfterLoss (w := { countAlignmentLoss (reported false false s) with alignment := .unaligned })
        (reported_config false false s) (reported_p false false s)
    exact ⟨_, _, _, exec_badChannel_if_invalid false false s, rfl, hslide, hskip, resumeAfterLoss_alignment _,
      execALossCrc_eq s⟩
  · obtain ⟨hslide, hskip⟩ :=
      exec_resumeAfterLoss (s := s) (w := { countAlignmentLoss
        (emit (.badChannel ⟨s.decoded.channel, false, true, s.p⟩) (countBadChannelId s)) with
          alignment := .unaligned }) rfl rfl
    exact ⟨_, _, _, exec_badChannel s.decoded.channel false true s, rfl, hslide, hskip, resumeAfterLoss_alignment _,
      execALossChannel_eq s⟩

/-- Settles O14: the bucket is the clamped tentative channel, which is legal under a DR_CLAMP of at most 10. -/
theorem deadReckoningRecordsClampedChannel : Obligations.DeadReckoningRecordsClampedChannel := by
  unfold Obligations.DeadReckoningRecordsClampedChannel
  refine ⟨fun sel => ⟨decodeSel_eq_iff (by decide) sel, decodeSel_eq_iff (by decide) sel⟩, fun s hc => ?_⟩
  have hk : (clamp s.config (tentativeChannel s.frame)).toNat < numBuckets := clamp_legal hc _
  refine ⟨clamp s.config (tentativeChannel s.frame), clamp_of_valid s.config, fun hch hne => ?_, fun _ hten => ?_,
    ⟨_, _, exec_recNotAlignedOk_of_legal hk s, rfl, rfl, rfl, execUDrOk_of_legal hk⟩,
    ⟨_, _, exec_recNotAlignedError_of_legal hk s, rfl, rfl, rfl, execUDrError_of_legal hk⟩⟩
  · have hclamp : clamp s.config (tentativeChannel s.frame) = BitVec.ofNat 4 s.config.drClamp :=
      clamp_of_invalid hch hne
    rw [hclamp, BitVec.toNat_ofNat]
    omega
  · have := clamp_cases hc (tentativeChannel s.frame)
    omega

/-- Settles O9: FINALIZE_FILE leaves `aligned`, and EOS_FINALIZE makes its state IDLE. -/
theorem eosFinalizeFinalizesAndIdles : Obligations.EosFinalizeFinalizesAndIdles := by
  unfold Obligations.EosFinalizeFinalizesAndIdles
  exact ⟨decodeSel_eq_iff (by decide), fun s => ⟨_, rfl, rfl, execEosFinalize_eq s⟩⟩

/-- Settles O10: both are REC_FILLER and ASM_NEXT_FRAME, U_SYNC with `aligned` set between them. -/
theorem syncMatchesCountFillerAndAdvance : Obligations.SyncMatchesCountFillerAndAdvance := by
  unfold Obligations.SyncMatchesCountFillerAndAdvance
  exact ⟨fun sel => ⟨decodeSel_eq_iff (by decide) sel, decodeSel_eq_iff (by decide) sel⟩,
    fun s => ⟨⟨_, _, rfl, rfl, rfl, rfl, execAFiller_eq s⟩, ⟨_, _, rfl, rfl, rfl, rfl, execUSync_eq s⟩⟩⟩

/-- Settles O11: a valid channel is a legal bucket. -/
theorem aDataOkCountsItsChannel : Obligations.ADataOkCountsItsChannel := by
  unfold Obligations.ADataOkCountsItsChannel
  refine ⟨decodeSel_eq_iff (by decide), fun s hch => ?_⟩
  have hk : s.decoded.channel.toNat < numBuckets := Nat.lt_trans hch (by decide)
  exact ⟨_, _, exec_recAlignedOk_of_legal hk s, rfl, rfl, rfl, execADataOk_of_legal hk⟩

/-- Settles O15: U_SKIP is ASM_SLIDE from `p`, which writes `p` and the window. -/
theorem uSkipOnlySlides : Obligations.USkipOnlySlides := by
  unfold Obligations.USkipOnlySlides
  exact ⟨decodeSel_eq_iff (by decide), fun s => ⟨(slideWord s.p s).window, _, rfl, execUSkip_eq s, rfl⟩⟩

/-! ## The events of a window (R64, R68) -/

/-- The BAD_CHANNEL reports of a window: one where its checksum and fields are evaluated and its channel is invalid. -/
def windowReports (s : State) : List Event :=
  if s.alignment = .aligned ∧ s.frame ≠ s.config.syncPattern ∧ 9 ≤ s.decoded.channel.toNat then
    [.badChannel ⟨s.decoded.channel, s.frame.getLsbD 255, !s.frame.getLsbD 255 && crcOkOf s.frame, s.p⟩]
  else []

/-- The error records of a window: one where its fields are evaluated and its flag is set. -/
def windowRecords (s : State) : List Event :=
  if s.alignment = .aligned ∧ s.frame ≠ s.config.syncPattern ∧ s.frame.getLsbD 255 = true then
    [.errorRecord (errorRecordOf s.decoded (checksumOf s.frame))]
  else []

/-- A window whose checksum and fields are not evaluated emits nothing. -/
theorem windowEvents_of_unchecked {s : State} (h : checksHere s = false) :
    windowReports s ++ windowRecords s = [] := by
  have hn : ¬ (s.alignment = .aligned ∧ s.frame ≠ s.config.syncPattern) := by rw [← checksHere_iff, h]; decide
  rw [windowReports, windowRecords, if_neg fun ⟨ha, hs, _⟩ => hn ⟨ha, hs⟩, if_neg fun ⟨ha, hs, _⟩ => hn ⟨ha, hs⟩]
  rfl

theorem windowReports_of_valid {s : State} (h : channelValid s.decoded.channel = true) : windowReports s = [] :=
  if_neg fun ⟨_, _, hv⟩ => Nat.not_le.mpr (channelValid_eq_true.mp h) hv

theorem windowRecords_of_clean {s : State} (h : errorFlagOf s.frame = false) : windowRecords s = [] :=
  if_neg fun ⟨_, _, hf⟩ => Bool.false_ne_true (h.symm.trans hf)

theorem windowRecords_of_error {s : State} (ha : s.alignment = .aligned) (hs : syncHere s = false)
    (hf : errorFlagOf s.frame = true) :
    windowRecords s = [.errorRecord (errorRecordOf s.decoded (checksumOf s.frame))] :=
  if_pos ⟨ha, syncHere_eq_false.mp hs, hf⟩

/-- On an ALIGNED window that is not SYNC_PATTERN, BAD_CHANNEL where the channel is invalid emits the window's report. -/
theorem reported_out_eq {s : State} {flag crcOk : Bool} (ha : s.alignment = .aligned) (hs : syncHere s = false)
    (hf : errorFlagOf s.frame = flag) (hc : (if flag then false else crcOk) = (!flag && crcOkOf s.frame)) :
    (reported flag crcOk s).out = s.out ++ windowReports s := by
  rw [reported_out]
  cases hv : channelValid s.decoded.channel with
  | true => rw [windowReports_of_valid hv, List.append_nil]; rfl
  | false =>
    have hreports : windowReports s =
        [.badChannel ⟨s.decoded.channel, errorFlagOf s.frame, !errorFlagOf s.frame && crcOkOf s.frame, s.p⟩] :=
      if_pos ⟨ha, syncHere_eq_false.mp hs, channelValid_eq_false.mp hv⟩
    rw [hreports, hf, hc]
    rfl

/-- Every outcome of a whole window emits the window's reports, then its records. -/
theorem WindowOutcome.out_eq {s t : State} (h : WindowOutcome s t) (hw : eosAt s.p = false) :
    t.out = s.out ++ (windowReports s ++ windowRecords s) := by
  cases h with
  | eosFinalize he => exact nomatch hw.symm.trans he
  | aFiller _ hs | uSync _ hs =>
    rw [windowEvents_of_unchecked (by simp [checksHere, hs])]
    exact (List.append_nil _).symm
  | aDataError _ hs ha hf =>
    rw [windowRecords_of_error ha hs hf, ← List.append_assoc, ← reported_out_eq (crcOk := false) ha hs hf rfl]
    rfl
  | aLossCrc _ hs ha hf hc =>
    rw [windowRecords_of_clean hf, List.append_nil, ← reported_out_eq ha hs hf hc.symm]
    exact resumeAfterLoss_out _
  | aLossChannel _ hs ha hf hc =>
    rw [windowRecords_of_clean hf, List.append_nil, ← reported_out_eq ha hs hf hc.symm]
    exact resumeAfterLoss_out _
  | aDataOk _ _ _ hf _ hv =>
    rw [windowReports_of_valid hv, windowRecords_of_clean hf, List.append_nil]
    exact (List.append_nil _).symm
  | uDrError _ _ ha | uDrOk _ _ ha | uSkip _ _ ha =>
    rw [windowEvents_of_unchecked (by simp [checksHere, alignedBit, ha])]
    exact (List.append_nil _).symm

/-- A running step is an outcome of its window with some value in `acc`. -/
theorem step_running_outcome_acc {s t : State} (hh : HostOnly s) (hr : s.phase = .running) (h : step s = .next t) :
    ∃ a, WindowOutcome { s with acc := a } t := by
  obtain ⟨a, ha⟩ := evaluateWindow_eq s
  exact ⟨a, ha ▸ step_running_outcome hh hr h⟩

/-- A step of a buffer that is not its last emits the window's reports, then its records. -/
theorem step_window_out {s t : State} (hh : HostOnly s) (hr : s.phase = .running) (hw : eosAt s.p = false)
    (h : step s = .next t) : t.out = s.out ++ (windowReports s ++ windowRecords s) := by
  obtain ⟨a, houtcome⟩ := step_running_outcome_acc hh hr h
  exact houtcome.out_eq hw

theorem filter_windowReports (s : State) : (windowReports s).filter (fun e => e.kind == 2) = windowReports s := by
  unfold windowReports; split <;> rfl

theorem filter_windowRecords (s : State) : (windowRecords s).filter (fun e => e.kind == 2) = [] := by
  unfold windowRecords; split <;> rfl

/-- Settles O16: BAD_CHANNEL by itself, and of the events of a window those of its kind. -/
theorem badChannelReportsInvalidAlignedChannels : Obligations.BadChannelReportsInvalidAlignedChannels := by
  unfold Obligations.BadChannelReportsInvalidAlignedChannels
  refine ⟨fun c flag crcOk s => ?_, fun s t hh hr hw h => ?_⟩
  · rw [exec_badChannel]
    cases flag <;> rfl
  · rw [step_window_out hh hr hw h, List.drop_left, List.filter_append, filter_windowReports, filter_windowRecords,
      List.append_nil]
    rfl

/-! ## The selection (R62, R63, R110) -/

theorem alignedBit_eq_true {a : Alignment} : alignedBit a = true ↔ a = .aligned := by
  rw [alignedBit_eq_decide, decide_eq_true_iff]

/-- The tests of a clean ALIGNED window: the checksum, then the channel (R110). -/
theorem cleanAligned_tree (s : State) :
    (if crcOkOf s.frame then (if channelValid s.decoded.channel then Instr.aDataOk else .aLossChannel)
      else .aLossCrc) =
    if checksumOf s.frame ≠ s.frame.extractLsb' 0 32 then .aLossCrc
    else if s.decoded.channel.toNat < 9 then .aDataOk
    else .aLossChannel := by
  rw [ite_not]
  exact if_congr crcOkOf_eq_true (if_congr channelValid_eq_true rfl rfl) rfl

/-- Settles O19: the selector's decision tree, test by test. -/
theorem selectionFollowsTestOrder : Obligations.SelectionFollowsTestOrder := by
  unfold Obligations.SelectionFollowsTestOrder
  intro s
  rw [selectedOp_tree]
  exact if_congr eosAt_eq_true rfl
    (if_congr syncHere_eq_true (if_congr alignedBit_eq_true rfl rfl)
      (if_congr alignedBit_eq_true (if_congr Iff.rfl rfl (cleanAligned_tree s)) (if_congr residueHere_eq_true rfl rfl)))

/-! ## The transitions of `aligned` (R76) -/

/-- From UNALIGNED only a sync match leads to ALIGNED. -/
theorem WindowOutcome.aligned_iff {s t : State} (h : WindowOutcome s t) (hu : s.alignment = .unaligned) :
    t.alignment = .aligned ↔ eosAt s.p = false ∧ syncHere s = true := by
  cases h with
  | uSync he hs => exact ⟨fun _ => ⟨he, hs⟩, fun _ => rfl⟩
  | eosFinalize he => simp [hu, he]
  | uDrError he hs | uDrOk he hs | uSkip he hs => simp [hu, hs]
  | aFiller _ _ ha | aDataError _ _ ha | aLossCrc _ _ ha | aLossChannel _ _ ha | aDataOk _ _ ha =>
    exact nomatch hu.symm.trans ha

/-- From ALIGNED only a clean frame that fails its checksum or has an invalid channel leads to UNALIGNED. -/
theorem WindowOutcome.unaligned_iff {s t : State} (h : WindowOutcome s t) (ha : s.alignment = .aligned) :
    t.alignment = .unaligned ↔ eosAt s.p = false ∧ syncHere s = false ∧ errorFlagOf s.frame = false ∧
      ¬ (crcOkOf s.frame = true ∧ channelValid s.decoded.channel = true) := by
  cases h with
  | aLossCrc he hs _ hf hc => simp [he, hs, hf, hc]
  | aLossChannel he hs _ hf _ hv => simp [he, hs, hf, hv]
  | eosFinalize he => simp [ha, he]
  | aFiller _ hs => simp [ha, hs]
  | aDataError _ _ _ hf => simp [ha, hf]
  | aDataOk _ _ _ _ hc hv => simp [ha, hc, hv]
  | uSync _ _ hu | uDrError _ _ hu | uDrOk _ _ hu | uSkip _ _ hu => exact nomatch hu.symm.trans ha

/-- Settles O20: a step of a buffer is an outcome of its window, whose transitions are exact. -/
theorem alignmentTransitionsExact : Obligations.AlignmentTransitionsExact := by
  unfold Obligations.AlignmentTransitionsExact
  refine ⟨rfl, fun s t hh hr h => ?_⟩
  obtain ⟨a, houtcome⟩ := step_running_outcome_acc hh hr h
  rw [← eosAt_eq_false, ← syncHere_eq_true, ← syncHere_eq_false, ← channelValid_eq_true]
  exact ⟨houtcome.aligned_iff, houtcome.unaligned_iff⟩

end Sys2Proof.Machine

/-!
The statements of 43_frame_decoder.md. DEC_CLASSIFY's tag has one equation per clause of R79; on a checked window (aligned,
whole, not SYNC_PATTERN) the selector tests the same bits in the same order, so tag and operation agree clause by clause;
the checksum delta is a difference of two 32-bit numbers, which 33 bits hold without wrap.
-/

namespace Sys2Proof.Machine

/-! ## DEC_CLASSIFY, clause by clause (R79) -/

theorem classify_of_error {d : Decoded} (hf : d.errorFlag = true) (crcOk : Bool) (computed : Word) :
    classify d crcOk computed = .dataError (dataErrorFields d computed) := by
  rw [classify, if_pos hf]

theorem classify_of_crc_failed {d : Decoded} (hf : d.errorFlag = false) (computed : Word) :
    classify d false computed = .loss .crc d.channel := by
  simp [classify, hf]

theorem classify_of_channel_invalid {d : Decoded} (hf : d.errorFlag = false) (hv : channelValid d.channel = false)
    (computed : Word) : classify d true computed = .loss .channel d.channel := by
  simp [classify, hf, hv]

theorem classify_of_ok {d : Decoded} (hf : d.errorFlag = false) (hv : channelValid d.channel = true)
    (computed : Word) : classify d true computed = .dataOk d.channel true := by
  simp [classify, hf, hv]

/-! ## The selection on a checked window (R45, R79) -/

/-- On an aligned whole window that is not SYNC_PATTERN the selection is the tests of flag, crc_ok and ch_valid. -/
theorem selectedOp_of_checked {s : State} (he : eosAt s.p = false) (ha : s.alignment = .aligned)
    (hs : s.frame ≠ s.config.syncPattern) : selectedOp s =
    if s.decoded.errorFlag then .aDataError
    else if crcOkOf s.frame then (if channelValid s.decoded.channel then .aDataOk else .aLossChannel)
    else .aLossCrc := by
  have hsync : syncHere s = false := syncHere_eq_false.mpr hs
  have haligned : alignedBit s.alignment = true := alignedBit_eq_true.mpr ha
  have hflag : s.decoded.errorFlag = errorFlagOf s.frame := rfl
  rw [selectedOp_tree, he, hsync, haligned, hflag]
  rfl

/-- Settles O23: tag and selection split on the same three bits, in the order flag, crc_ok, ch_valid. -/
theorem classificationNamesSelection : Obligations.ClassificationNamesSelection := by
  unfold Obligations.ClassificationNamesSelection
  intro s he ha hs
  rw [selectedOp_of_checked he ha hs]
  cases hf : s.decoded.errorFlag with
  | true =>
    rw [classify_of_error hf]
    exact ⟨rfl, rfl, rfl⟩
  | false =>
    cases crcOkOf s.frame with
    | false =>
      rw [classify_of_crc_failed hf]
      exact ⟨rfl, rfl⟩
    | true =>
      cases hv : channelValid s.decoded.channel with
      | false =>
        rw [classify_of_channel_invalid hf hv]
        exact ⟨rfl, rfl⟩
      | true =>
        rw [classify_of_ok hf hv]
        exact ⟨rfl, rfl, rfl⟩

/-! ## The checksum delta (R81) -/

/-- A difference of two words lies within `2^32 - 1` of 0. -/
theorem deltaInt_bounds (computed embedded : Word) :
    -(2 ^ 32 - 1) ≤ deltaInt computed embedded ∧ deltaInt computed embedded ≤ 2 ^ 32 - 1 := by
  have hc := computed.isLt
  have he := embedded.isLt
  unfold deltaInt
  omega

/-- 33 bits hold the difference of two words without wrap. -/
theorem toInt_delta (computed embedded : Word) : (delta computed embedded).toInt = deltaInt computed embedded := by
  obtain ⟨hlow, hhigh⟩ := deltaInt_bounds computed embedded
  exact BitVec.toInt_ofInt_eq_self (by decide) (by omega) (by omega)

theorem delta_eq_zero_iff (computed embedded : Word) : delta computed embedded = 0#33 ↔ computed = embedded := by
  rw [← BitVec.toInt_inj, toInt_delta, BitVec.toInt_zero, deltaInt, Int.sub_eq_zero, Int.natCast_inj, BitVec.toNat_inj]

/-- Settles O30: the delta holds the difference without wrap, and the difference keeps its bounds and its zero. -/
theorem checksumDeltaExact : Obligations.ChecksumDeltaExact := by
  unfold Obligations.ChecksumDeltaExact
  intro computed embedded
  rw [toInt_delta]
  obtain ⟨hlow, hhigh⟩ := deltaInt_bounds computed embedded
  exact ⟨rfl, hlow, hhigh, delta_eq_zero_iff computed embedded⟩

/-! ## The operations by themselves (R78, R79, R80) -/

theorem exec_decExtract (f : Frame) (s : State) : exec (.decExtract f) s =
    .next { s with result := .fields (extractFields s.config.layout f) } := rfl

theorem exec_decClassify (d : Decoded) (crcOk : Bool) (computed : Word) (s : State) :
    exec (.decClassify d crcOk computed) s = .next { s with result := .tag (classify d crcOk computed) } := rfl

theorem exec_decErrorRecord (d : Decoded) (computed : Word) (s : State) : exec (.decErrorRecord d computed) s =
    .next { s with result := .record (errorRecordOf d computed) } := rfl

/-- Settles O26: the answer is the field split of the frame under the LAYOUT, whose fields are the slices named. -/
theorem decExtractSplitsFrame : Obligations.DecExtractSplitsFrame := by
  unfold Obligations.DecExtractSplitsFrame
  intro f s
  rw [exec_decExtract]
  rfl

/-- Settles O28: the tag is `classify`'s, whose clauses are those of the rule. -/
theorem decClassifyTags : Obligations.DecClassifyTags := by
  unfold Obligations.DecClassifyTags
  intro d crcOk computed s
  refine ⟨classify d crcOk computed, exec_decClassify d crcOk computed s, ?_, ?_, ?_, ?_⟩
  · rintro hf rfl hv
    exact classify_of_ok hf (channelValid_eq_true.mpr hv) computed
  · rintro hf rfl
    exact classify_of_crc_failed hf computed
  · rintro hf rfl hv
    exact classify_of_channel_invalid hf (channelValid_eq_false.mpr hv) computed
  · exact fun hf => classify_of_error hf crcOk computed

/-- Settles O29: the answer is the error record of R48, its delta the 33-bit difference. -/
theorem decErrorRecordFields : Obligations.DecErrorRecordFields := by
  unfold Obligations.DecErrorRecordFields
  intro d computed s
  rw [exec_decErrorRecord]
  rfl

end Sys2Proof.Machine

/-!
The statements of 44_statistics_counter_array.md. A window that is not the last of its buffer adds at most one
classification (`Counted`), which keeps the sums of R95 and lowers nothing as long as no counter is near its wrap point;
the last window and HOST_RESET leave the file counters 0, and FINALIZE_FILE adds sums to sums. The nine commands by
themselves are their updates, and an illegal one is met by the decoder or by its bucket index.
-/

namespace Sys2Proof.Machine

/-! ## A counter and its bucket (R83 to R88) -/

/-- The aligned path never reaches bucket 10 (R44). -/
theorem route_lt (ch : Chan) : (route ch).toNat < 10 := by
  rw [route_eq_ite]
  split
  · omega
  · decide

/-- A dead-reckoning observation reaches bucket 9 under DR_CLAMP = 9 only (R95 (4)). -/
theorem drClamp_eq_nine_of_clamp {c : Config} (ha : configAccepted c = true) {tch : Chan}
    (h : (clamp c tch).toNat = 9) : c.drClamp = 9 := by
  have := clamp_cases (drClamp_le_of_accepted ha) tch
  omega

/-- A counter far from its wrap point is counted exactly (R94). -/
theorem toNat_add_one_of_le {x : BitVec 32} (h : x.toNat ≤ 50000) : (x + 1#32).toNat = x.toNat + 1 := by
  rw [BitVec.toNat_add, BitVec.toNat_ofNat]
  omega

theorem toNat_le_add_one {x : BitVec 32} (h : x.toNat ≤ 50000) : x.toNat ≤ (x + 1#32).toNat := by
  rw [toNat_add_one_of_le h]
  exact Nat.le_succ _

theorem toNat_add_one_le (x : BitVec 32) : (x + 1#32).toNat ≤ x.toNat + 1 := by
  rw [BitVec.toNat_add]
  exact Nat.mod_le ..

/-- A field of a bucket that the update keeps, where it updates that bucket at all. -/
theorem field_updateBucket {w : Nat} {g : Bucket w → BitVec w} {f : Bucket w → Bucket w} {k : Chan} {j : Nat}
    (hg : k.toNat = j → ∀ b, g (f b) = g b) (v : Channels w) (hj : j < numBuckets) :
    g (updateBucket k f v)[j] = g v[j] := by
  rw [getElem_updateBucket]
  split
  · exact hg ‹_› _
  · rfl

/-- An update and a counter agree on a bucket field: both keep it, or both count it once. -/
inductive Tracks (g : Bucket 32 → BitVec 32) (f : Bucket 32 → Bucket 32) (before after : Nat) : Prop
  | kept (field : ∀ b, g (f b) = g b) (counter : after = before)
  | counted (field : ∀ b, g (f b) = g b + 1#32) (counter : after = before + 1)

/-- The sum of a field over the buckets follows the counter that it stands for. -/
theorem Tracks.bucketSum_eq {g : Bucket 32 → BitVec 32} {f : Bucket 32 → Bucket 32} {before after : Nat}
    (h : Tracks g f before after) {k : Chan} (hk : k.toNat < numBuckets) {v : Channels 32}
    (hv : bucketSum g v = before) (hbefore : before ≤ 50000) : bucketSum g (updateBucket k f v) = after := by
  have hsum := bucketSum_updateBucket g k f v hk
  cases h with
  | kept hfield hcounter =>
    rw [hfield] at hsum
    omega
  | counted hfield hcounter =>
    have hle := le_bucketSum g v k.toNat hk
    rw [hfield, toNat_add_one_of_le (by omega)] at hsum
    omega

/-! ## The bounds (R94) -/

/-- Four counters of a bucket, each at most `n`. -/
structure BucketBound (n : Nat) (b : Bucket 32) : Prop where
  alignedOk : b.alignedOk.toNat ≤ n
  alignedError : b.alignedError.toNat ≤ n
  notAlignedOk : b.notAlignedOk.toNat ≤ n
  notAlignedError : b.notAlignedError.toNat ≤ n

/-- Seven file counters, each at most `n`. -/
structure CountersBound (n : Nat) (c : Counters 32) : Prop where
  fillerFrames : c.fillerFrames.toNat ≤ n
  alignedOk : c.alignedOk.toNat ≤ n
  alignedError : c.alignedError.toNat ≤ n
  notAlignedOk : c.notAlignedOk.toNat ≤ n
  notAlignedError : c.notAlignedError.toNat ≤ n
  alignmentLossEvents : c.alignmentLossEvents.toNat ≤ n
  badChannelIdEvents : c.badChannelIdEvents.toNat ≤ n

/-- No counter exceeds the number of classifications, a bad channel being one of an error frame or of a loss. -/
theorem FileSums.file_bound {s : State} {n : Nat} (hs : FileSums s) (hn : classified s.file ≤ n) :
    CountersBound n s.file := by
  have hbad := hs.badChannel
  unfold classified at hn
  constructor <;> omega

/-- No bucket's counter exceeds the number of classifications. -/
theorem FileSums.fchan_bound {s : State} {n : Nat} (hs : FileSums s) (hn : classified s.file ≤ n) (j : Nat)
    (hj : j < numBuckets) : BucketBound n s.fchan[j] := by
  unfold classified at hn
  have hok := le_bucketSum Bucket.alignedOk s.fchan j hj
  have herror := le_bucketSum Bucket.alignedError s.fchan j hj
  have hnok := le_bucketSum Bucket.notAlignedOk s.fchan j hj
  have hnerror := le_bucketSum Bucket.notAlignedError s.fchan j hj
  rw [hs.alignedOk] at hok
  rw [hs.alignedError] at herror
  rw [hs.notAlignedOk] at hnok
  rw [hs.notAlignedError] at hnerror
  constructor <;> omega

/-- A state of the invariant has classified at most one frame per position, and none between buffers. -/
theorem CounterInv.classified_le {s : State} (hs : CounterInv s) : classified s.file ≤ 50000 := by
  cases hp : s.phase with
  | idle =>
    rw [(hs.cleared hp).1]
    decide
  | running => exact (hs.bounded hp).trans (hs.position hp)

/-- Settles O53: each counter is bounded by the classifications, which are bounded by the position. -/
theorem fileCountersNeverWrap : Obligations.FileCountersNeverWrap := by
  unfold Obligations.FileCountersNeverWrap
  intro s hs
  obtain ⟨hfiller, hok, herror, hnok, hnerror, hloss, hbad⟩ := hs.fileSums.file_bound hs.classified_le
  refine ⟨hfiller, hok, herror, hnok, hnerror, hloss, hbad, fun k hk => ?_⟩
  obtain ⟨hok, herror, hnok, hnerror⟩ := hs.fileSums.fchan_bound hs.classified_le k hk
  exact ⟨hok, herror, hnok, hnerror⟩

/-! ## What a window counts -/

/-- Two states agree in the configuration and in every counter. -/
structure CountsAs (t u : State) : Prop where
  config : t.config = u.config
  file : t.file = u.file
  fchan : t.fchan = u.fchan
  run : t.run = u.run
  rchan : t.rchan = u.rchan
  buffersProcessed : t.buffersProcessed = u.buffersProcessed

theorem CountsAs.trans {s t u : State} (h : CountsAs s t) (h' : CountsAs t u) : CountsAs s u :=
  ⟨h.config.trans h'.config, h.file.trans h'.file, h.fchan.trans h'.fchan, h.run.trans h'.run,
    h.rchan.trans h'.rchan, h.buffersProcessed.trans h'.buffersProcessed⟩

theorem evaluateWindow_countsAs (s : State) : CountsAs (evaluateWindow s) s := by
  obtain ⟨a, ha⟩ := evaluateWindow_eq s
  rw [ha]
  exact ⟨rfl, rfl, rfl, rfl, rfl, rfl⟩

theorem resumeAfterLoss_countsAs (s : State) : CountsAs (resumeAfterLoss s) s :=
  ⟨resumeAfterLoss_config s, resumeAfterLoss_file s, resumeAfterLoss_fchan s, resumeAfterLoss_run s,
    resumeAfterLoss_rchan s, resumeAfterLoss_buffersProcessed s⟩

/-- BAD_CHANNEL counts itself at most. -/
theorem reported_file_eq (flag crcOk : Bool) (s : State) : ∃ b : BitVec 32,
    (reported flag crcOk s).file = { s.file with badChannelIdEvents := b } ∧
      b.toNat ≤ s.file.badChannelIdEvents.toNat + 1 ∧
      (s.file.badChannelIdEvents.toNat ≤ 50000 → s.file.badChannelIdEvents.toNat ≤ b.toNat) := by
  rw [reported_file]
  split
  · exact ⟨_, rfl, Nat.le_succ _, fun _ => Nat.le_refl _⟩
  · exact ⟨_, rfl, toNat_add_one_le _, toNat_le_add_one⟩

/-- The states that the statistics commands of one window leave, each with the buckets it can charge. -/
inductive Counted (s : State) : State → Prop
  | nothing : Counted s s
  | filler : Counted s (countFiller s)
  | alignedOk {k : Chan} (hk : k.toNat < 9) : Counted s (countAlignedOk k s)
  | alignedError {k : Chan} (hk : k.toNat < 10) (flag crcOk : Bool) :
    Counted s (countAlignedError k (reported flag crcOk s))
  | alignmentLoss (flag crcOk : Bool) : Counted s (countAlignmentLoss (reported flag crcOk s))
  | notAlignedOk {k : Chan} (hk : k.toNat < 10) (hnine : k.toNat = 9 → s.config.drClamp = 9) :
    Counted s (countNotAlignedOk k s)
  | notAlignedError {k : Chan} (hk : k.toNat < 10) (hnine : k.toNat = 9 → s.config.drClamp = 9) :
    Counted s (countNotAlignedError k s)

/-- Every outcome of a whole window counts as one of these does. -/
theorem WindowOutcome.counted {s t : State} (h : WindowOutcome s t) (hw : eosAt s.p = false)
    (ha : configAccepted s.config = true) : ∃ u, Counted s u ∧ CountsAs t u := by
  cases h with
  | eosFinalize he => exact nomatch hw.symm.trans he
  | aFiller | uSync => exact ⟨_, .filler, rfl, rfl, rfl, rfl, rfl, rfl⟩
  | aDataError => exact ⟨_, .alignedError (route_lt _) true false, rfl, rfl, rfl, rfl, rfl, rfl⟩
  | aLossCrc =>
    exact ⟨_, .alignmentLoss false false, (resumeAfterLoss_countsAs _).trans ⟨rfl, rfl, rfl, rfl, rfl, rfl⟩⟩
  | aLossChannel =>
    exact ⟨_, .alignmentLoss false true, (resumeAfterLoss_countsAs _).trans ⟨rfl, rfl, rfl, rfl, rfl, rfl⟩⟩
  | aDataOk _ _ _ _ _ hv => exact ⟨_, .alignedOk (channelValid_eq_true.mp hv), rfl, rfl, rfl, rfl, rfl, rfl⟩
  | uDrError =>
    exact ⟨_, .notAlignedError (clamp_lt_of_accepted ha _) (drClamp_eq_nine_of_clamp ha), rfl, rfl, rfl, rfl, rfl, rfl⟩
  | uDrOk =>
    exact ⟨_, .notAlignedOk (clamp_lt_of_accepted ha _) (drClamp_eq_nine_of_clamp ha), rfl, rfl, rfl, rfl, rfl, rfl⟩
  | uSkip => exact ⟨_, .nothing, rfl, rfl, rfl, rfl, rfl, rfl⟩

/-! ## The sums of R95 within a buffer -/

/-- The sums speak of the file counters, and of the configuration through DR_CLAMP = 9 only. -/
theorem FileSums.of_eq {s t : State} (hs : FileSums s) (hfile : t.file = s.file) (hfchan : t.fchan = s.fchan)
    (hclamp : t.config.drClamp ≠ 9 → s.config.drClamp ≠ 9) : FileSums t where
  alignedOk := by rw [hfile, hfchan]; exact hs.alignedOk
  alignedError := by rw [hfile, hfchan]; exact hs.alignedError
  notAlignedOk := by rw [hfile, hfchan]; exact hs.notAlignedOk
  notAlignedError := by rw [hfile, hfchan]; exact hs.notAlignedError
  overflowOk := by rw [hfchan]; exact hs.overflowOk
  overflowNotAligned hc := by rw [hfchan]; exact hs.overflowNotAligned (hclamp hc)
  outOfRange := by rw [hfchan]; exact hs.outOfRange
  badChannel := by rw [hfile]; exact hs.badChannel

theorem FileSums.of_countsAs {s t : State} (hs : FileSums s) (h : CountsAs t s) : FileSums t :=
  hs.of_eq h.file h.fchan (by rw [h.config]; exact id)

/-- Counters of 0 meet the sums under every configuration. -/
theorem FileSums.of_zero {s : State} (hfile : s.file = Counters.zero fileCtrBits)
    (hfchan : s.fchan = Channels.zero fileCtrBits) : FileSums s :=
  reset_fileSums.of_eq hfile hfchan fun _ => by decide

section
variable {s t : State} (hs : FileSums s) (hn : classified s.file ≤ 50000)
include hs hn

/-- A command on bucket `k` keeps the sums where each of its fields follows the counter that it stands for, and no bad
channel is counted alone. -/
theorem FileSums.of_tracks {k : Chan} {f : Bucket 32 → Bucket 32} (hk : k.toNat < 10) (hconfig : t.config = s.config)
    (hfchan : t.fchan = updateBucket k f s.fchan)
    (hok : Tracks Bucket.alignedOk f s.file.alignedOk.toNat t.file.alignedOk.toNat)
    (herror : Tracks Bucket.alignedError f (s.file.alignedError.toNat + s.file.alignmentLossEvents.toNat)
      (t.file.alignedError.toNat + t.file.alignmentLossEvents.toNat))
    (hnok : Tracks Bucket.notAlignedOk f s.file.notAlignedOk.toNat t.file.notAlignedOk.toNat)
    (hnerror : Tracks Bucket.notAlignedError f s.file.notAlignedError.toNat t.file.notAlignedError.toNat)
    (hnine : k.toNat = 9 → ∀ b, (f b).alignedOk = b.alignedOk ∧ (s.config.drClamp ≠ 9 →
      (f b).notAlignedOk = b.notAlignedOk ∧ (f b).notAlignedError = b.notAlignedError))
    (hbad : t.file.badChannelIdEvents.toNat ≤ t.file.alignedError.toNat + t.file.alignmentLossEvents.toNat) :
    FileSums t := by
  have hlegal : k.toNat < numBuckets := Nat.lt_trans hk (by decide)
  have hbound := hs.file_bound hn
  have hcharged : s.file.alignedError.toNat + s.file.alignmentLossEvents.toNat ≤ 50000 := by
    unfold classified at hn
    omega
  constructor
  case alignedOk => rw [hfchan]; exact hok.bucketSum_eq hlegal hs.alignedOk hbound.alignedOk
  case alignedError => rw [hfchan]; exact herror.bucketSum_eq hlegal hs.alignedError hcharged
  case notAlignedOk => rw [hfchan]; exact hnok.bucketSum_eq hlegal hs.notAlignedOk hbound.notAlignedOk
  case notAlignedError => rw [hfchan]; exact hnerror.bucketSum_eq hlegal hs.notAlignedError hbound.notAlignedError
  case overflowOk =>
    rw [hfchan, field_updateBucket (g := Bucket.alignedOk) fun h b => (hnine h b).1]
    exact hs.overflowOk
  case overflowNotAligned =>
    intro hc
    rw [hconfig] at hc
    rw [hfchan, field_updateBucket (g := Bucket.notAlignedOk) fun h b => ((hnine h b).2 hc).1,
      field_updateBucket (g := Bucket.notAlignedError) fun h b => ((hnine h b).2 hc).2]
    exact hs.overflowNotAligned hc
  case outOfRange =>
    rw [hfchan, getElem_updateBucket_ne _ _ _ (by omega)]
    exact hs.outOfRange
  case badChannel => exact hbad

/-- What a window counts keeps the sums. -/
theorem FileSums.of_counted {u : State} (h : Counted s u) : FileSums u := by
  have hbound := hs.file_bound hn
  have hbad := hs.badChannel
  cases h with
  | nothing => exact hs
  | filler =>
    exact ⟨hs.alignedOk, hs.alignedError, hs.notAlignedOk, hs.notAlignedError, hs.overflowOk, hs.overflowNotAligned,
      hs.outOfRange, hs.badChannel⟩
  | alignedOk hk =>
    exact hs.of_tracks hn (f := bumpAlignedOk) (by omega) rfl rfl
      (.counted (fun _ => rfl) (toNat_add_one_of_le hbound.alignedOk)) (.kept (fun _ => rfl) rfl)
      (.kept (fun _ => rfl) rfl) (.kept (fun _ => rfl) rfl) (fun h => by omega) hbad
  | notAlignedOk hk hnine =>
    exact hs.of_tracks hn (f := bumpNotAlignedOk) hk rfl rfl (.kept (fun _ => rfl) rfl) (.kept (fun _ => rfl) rfl)
      (.counted (fun _ => rfl) (toNat_add_one_of_le hbound.notAlignedOk)) (.kept (fun _ => rfl) rfl)
      (fun h _ => ⟨rfl, fun hc => absurd (hnine h) hc⟩) hbad
  | notAlignedError hk hnine =>
    exact hs.of_tracks hn (f := bumpNotAlignedError) hk rfl rfl (.kept (fun _ => rfl) rfl) (.kept (fun _ => rfl) rfl)
      (.kept (fun _ => rfl) rfl) (.counted (fun _ => rfl) (toNat_add_one_of_le hbound.notAlignedError))
      (fun h _ => ⟨rfl, fun hc => absurd (hnine h) hc⟩) hbad
  | alignedError hk flag crcOk =>
    obtain ⟨b, hfile, hb, -⟩ := reported_file_eq flag crcOk s
    have hcount := toNat_add_one_of_le hbound.alignedError
    refine hs.of_tracks hn (f := bumpAlignedError) hk (reported_config ..)
      (by rw [countAlignedError_fchan, reported_fchan])
      (.kept (fun _ => rfl) ?_) (.counted (fun _ => rfl) ?_) (.kept (fun _ => rfl) ?_) (.kept (fun _ => rfl) ?_)
      (fun _ _ => ⟨rfl, fun _ => ⟨rfl, rfl⟩⟩) ?_ <;> simp only [countAlignedError_file, hfile, hcount] <;> omega
  | alignmentLoss flag crcOk =>
    obtain ⟨b, hfile, hb, -⟩ := reported_file_eq flag crcOk s
    have hcount := toNat_add_one_of_le hbound.alignmentLossEvents
    refine hs.of_tracks hn (f := bumpAlignedError) (k := ovfIndex) (by decide) (reported_config ..)
      (by rw [countAlignmentLoss_fchan, reported_fchan])
      (.kept (fun _ => rfl) ?_) (.counted (fun _ => rfl) ?_) (.kept (fun _ => rfl) ?_) (.kept (fun _ => rfl) ?_)
      (fun _ _ => ⟨rfl, fun _ => ⟨rfl, rfl⟩⟩) ?_ <;> simp only [countAlignmentLoss_file, hfile, hcount] <;> omega

end

/-- A window adds at most one classification. -/
theorem Counted.classified_le {s u : State} (h : Counted s u) : classified u.file ≤ classified s.file + 1 := by
  unfold classified
  cases h with
  | nothing => exact Nat.le_succ _
  | filler =>
    have := toNat_add_one_le s.file.fillerFrames
    simp only [countFiller_file]
    omega
  | alignedOk =>
    have := toNat_add_one_le s.file.alignedOk
    simp only [countAlignedOk_file]
    omega
  | alignedError _ flag crcOk =>
    obtain ⟨b, hfile, -⟩ := reported_file_eq flag crcOk s
    have := toNat_add_one_le s.file.alignedError
    simp only [countAlignedError_file, hfile]
    omega
  | alignmentLoss flag crcOk =>
    obtain ⟨b, hfile, -⟩ := reported_file_eq flag crcOk s
    have := toNat_add_one_le s.file.alignmentLossEvents
    simp only [countAlignmentLoss_file, hfile]
    omega
  | notAlignedOk =>
    have := toNat_add_one_le s.file.notAlignedOk
    simp only [countNotAlignedOk_file]
    omega
  | notAlignedError =>
    have := toNat_add_one_le s.file.notAlignedError
    simp only [countNotAlignedError_file]
    omega

/-! ## The sums of the run (R89) -/

/-- A sum over two lists added element by element, the second widened. -/
theorem sum_zipWith_addBucket {g : Bucket 64 → BitVec 64} {g' : Bucket 32 → BitVec 32}
    (hg : ∀ a b, g (addBucket a (widenBucket b)) = g a + (g' b).setWidth 64) :
    ∀ (l : List (Bucket 64)) (l' : List (Bucket 32)), l.length = l'.length →
      ((List.zipWith (fun a b => addBucket a (widenBucket b)) l l').map g).sum =
        (l.map g).sum + BitVec.ofNat 64 (l'.map fun b => (g' b).toNat).sum
  | [], [], _ => rfl
  | a :: l, b :: l', h => by
    have ih := sum_zipWith_addBucket hg l l' (Nat.succ.inj h)
    simp only [List.zipWith_cons_cons, List.map_cons, List.sum_cons, ih, hg, BitVec.ofNat_add, BitVec.ofNat_toNat]
    ac_rfl

/-- The run's sum of a field after FINALIZE_FILE: the old one and the exact sum of the file. -/
theorem bucketSumMod_mergeChannels {g : Bucket 64 → BitVec 64} {g' : Bucket 32 → BitVec 32}
    (hg : ∀ a b, g (addBucket a (widenBucket b)) = g a + (g' b).setWidth 64) (r : Channels 64) (v : Channels 32) :
    bucketSumMod g (mergeChannels r v) = bucketSumMod g r + BitVec.ofNat 64 (bucketSum g' v) := by
  have h := sum_zipWith_addBucket hg r.toList v.toList (by simp)
  simpa [bucketSumMod, bucketSum, mergeChannels, Vector.toList_zipWith] using h

theorem bucketSumMod_mergeChannels_of_eq {g : Bucket 64 → BitVec 64} {g' : Bucket 32 → BitVec 32}
    (hg : ∀ a b, g (addBucket a (widenBucket b)) = g a + (g' b).setWidth 64) {r : Channels 64} {v : Channels 32}
    {x : BitVec 64} {y : BitVec 32} (hr : bucketSumMod g r = x) (hv : bucketSum g' v = y.toNat) :
    bucketSumMod g (mergeChannels r v) = x + y.setWidth 64 := by
  rw [bucketSumMod_mergeChannels hg, hr, hv, BitVec.ofNat_toNat]

/-- Exact sums added to the run's sums at its width keep them. -/
theorem RunSums.mergeFile {s : State} (hr : RunSums s) (hf : FileSums s) : RunSums (mergeFile s) where
  alignedOk := bucketSumMod_mergeChannels_of_eq (fun _ _ => rfl) hr.alignedOk hf.alignedOk
  alignedError := by
    rw [mergeFile_rchan, bucketSumMod_mergeChannels fun _ _ => rfl, hr.alignedError, hf.alignedError, BitVec.ofNat_add,
      BitVec.ofNat_toNat, BitVec.ofNat_toNat]
    simp only [mergeFile_run, addCounters, widenCounters]
    ac_rfl
  notAlignedOk := bucketSumMod_mergeChannels_of_eq (fun _ _ => rfl) hr.notAlignedOk hf.notAlignedOk
  notAlignedError := bucketSumMod_mergeChannels_of_eq (fun _ _ => rfl) hr.notAlignedError hf.notAlignedError
  outOfRange := by
    rw [mergeFile_rchan, mergeChannels, Vector.getElem_zipWith, hr.outOfRange, hf.outOfRange]
    decide

theorem RunSums.of_eq {s t : State} (hs : RunSums s) (hrun : t.run = s.run) (hrchan : t.rchan = s.rchan) :
    RunSums t where
  alignedOk := by rw [hrun, hrchan]; exact hs.alignedOk
  alignedError := by rw [hrun, hrchan]; exact hs.alignedError
  notAlignedOk := by rw [hrun, hrchan]; exact hs.notAlignedOk
  notAlignedError := by rw [hrun, hrchan]; exact hs.notAlignedError
  outOfRange := by rw [hrchan]; exact hs.outOfRange

/-- A window counts nothing in the run. -/
theorem Counted.run_eq {s u : State} (h : Counted s u) :
    u.run = s.run ∧ u.rchan = s.rchan ∧ u.buffersProcessed = s.buffersProcessed := by
  cases h with
  | alignedError | alignmentLoss => exact ⟨reported_run .., reported_rchan .., reported_buffersProcessed ..⟩
  | _ => exact ⟨rfl, rfl, rfl⟩

/-! ## The counter invariant, step by step -/

/-- A window that is not the last leaves the counters of a state that one window's commands leave. -/
theorem step_counted {s t : State} (hs : SpecRun s) (hr : s.phase = .running) (hw : eosAt s.p = false)
    (h : step s = .next t) : ∃ u, Counted (evaluateWindow s) u ∧ CountsAs t u :=
  (step_running_outcome hs.hostOnly hr h).counted (by rw [(evaluateWindow_standsAs s).p]; exact hw)
    (by rw [evaluateWindow_config]; exact hs.accepted)

/-- The last step of a buffer leaves the counters that FINALIZE_FILE leaves. -/
theorem step_endOfStream_countsAs {s t : State} (hh : HostOnly s) (hr : s.phase = .running) (he : eosAt s.p = true)
    (h : step s = .next t) : CountsAs t (mergeFile (evaluateWindow s)) := by
  have hw : eosAt (evaluateWindow s).p = true := by rw [(evaluateWindow_standsAs s).p]; exact he
  cases step_running_outcome hh hr h with
  | eosFinalize => exact ⟨rfl, rfl, rfl, rfl, rfl, rfl⟩
  | _ he' => exact nomatch hw.symm.trans he'

/-- An IDLE block with an accepted configuration, host commands waiting and file counters of 0 meets the invariant. -/
theorem counterInv_of_idle {s : State} (hs : SpecRun s) (hi : s.phase = .idle)
    (hfile : s.file = Counters.zero fileCtrBits) (hfchan : s.fchan = Channels.zero fileCtrBits) (hr : RunSums s) :
    CounterInv s where
  spec := hs
  cleared _ := ⟨hfile, hfchan⟩
  position hrun := nomatch hi.symm.trans hrun
  bounded hrun := nomatch hi.symm.trans hrun
  fileSums := .of_zero hfile hfchan
  runSums := hr

/-- A window that is not the last keeps the invariant: one classification at most, and one position at least. -/
theorem counterInv_step_window {s t : State} (hs : CounterInv s) (hr : s.phase = .running) (hw : eosAt s.p = false)
    (h : step s = .next t) : CounterInv t := by
  obtain ⟨hspec, hrt, hforward⟩ := hs.spec.step_window hr hw h
  obtain ⟨-, -, -, hposition⟩ := positionAdvancesByFrameOrWord s t hs.spec.hostOnly hr (eosAt_eq_false.mp hw) h
  obtain ⟨u, hu, htu⟩ := step_counted hs.spec hr hw h
  have he := evaluateWindow_countsAs s
  have hsums : FileSums (evaluateWindow s) := hs.fileSums.of_countsAs he
  obtain ⟨hrun, hrchan, -⟩ := hu.run_eq
  have hclassified := hu.classified_le
  rw [he.file, ← htu.file] at hclassified
  exact {
    spec := hspec
    cleared := fun hi => nomatch hrt.symm.trans hi
    position := fun _ => hposition
    bounded := fun _ => by have := hs.bounded hr; omega
    fileSums := (hsums.of_counted (by rw [he.file]; exact hs.classified_le) hu).of_countsAs htu
    runSums := hs.runSums.of_eq (htu.run.trans (hrun.trans he.run)) (htu.rchan.trans (hrchan.trans he.rchan)) }

/-- The last step of a buffer keeps the invariant: the sums of the file go to the run. -/
theorem counterInv_step_endOfStream {s t : State} (hs : CounterInv s) (hr : s.phase = .running)
    (he : eosAt s.p = true) (h : step s = .next t) : CounterInv t := by
  obtain ⟨hidle, hinbox⟩ := step_endOfStream hs.spec.hostOnly hr he h
  have hspec : SpecRun t :=
    ⟨by unfold HostOnly; rw [hinbox]; exact hs.spec.hostOnly, by rw [step_keepsConfig s t h]; exact hs.spec.accepted⟩
  have hw := evaluateWindow_countsAs s
  have ht := step_endOfStream_countsAs hs.spec.hostOnly hr he h
  have hsums : RunSums (mergeFile (evaluateWindow s)) :=
    (hs.runSums.of_eq hw.run hw.rchan).mergeFile (hs.fileSums.of_countsAs hw)
  exact counterInv_of_idle hspec hidle ht.file ht.fchan (hsums.of_eq ht.run ht.rchan)

/-- A step of an IDLE block keeps the invariant: HOST_RESET clears every counter, HOST_RUN_BUFFER starts a buffer with
file counters of 0, HOST_READ_RUN writes no counter. -/
theorem counterInv_step_idle {s t : State} (hs : CounterInv s) (hi : s.phase = .idle) (h : step s = .next t) :
    CounterInv t := by
  have hspec : SpecRun t :=
    ⟨(windowInv_step_idle (windowInv_of_idle hs.spec.hostOnly hi) hi h).hostOnly,
      by rw [step_keepsConfig s t h]; exact hs.spec.accepted⟩
  obtain ⟨hfile, hfchan⟩ := hs.cleared hi
  rcases step_idle_outcome hs.spec.hostOnly hi h with ⟨-, rfl⟩ | ⟨code, raw, rest, -, hreset | hrun | hread⟩
  · exact hs
  · cases hreset
    exact counterInv_of_idle hspec rfl rfl rfl (reset_runSums.of_eq rfl rfl)
  · simp only [exec, execHostRunBuffer] at hrun
    split at hrun
    · cases hrun
      exact {
        spec := hspec
        cleared := fun hidle => nomatch hidle
        position := fun _ => Nat.zero_le _
        bounded := fun _ => by change classified s.file ≤ 0; rw [hfile]; decide
        fileSums := .of_zero hfile hfchan
        runSums := hs.runSums.of_eq rfl rfl }
    · cases hrun
  · cases hread
    exact counterInv_of_idle hspec hi hfile hfchan (hs.runSums.of_eq rfl rfl)

/-- Settles O52: a window counts one classification at most with its bucket, the last window moves the file's sums to
the run, and host commands leave file counters of 0. -/
theorem countersStayConsistent : Obligations.CountersStayConsistent := by
  unfold Obligations.CountersStayConsistent
  intro s t hs h
  cases hp : s.phase with
  | idle => exact counterInv_step_idle hs hp h
  | running =>
    cases he : eosAt s.p with
    | true => exact counterInv_step_endOfStream hs hp he h
    | false => exact counterInv_step_window hs hp he h

/-! ## No counter falls within a buffer (R95 (6)) -/

/-- Seven file counters, none of which fell. -/
structure CountersRise (c c' : Counters 32) : Prop where
  fillerFrames : c.fillerFrames.toNat ≤ c'.fillerFrames.toNat
  alignedOk : c.alignedOk.toNat ≤ c'.alignedOk.toNat
  alignedError : c.alignedError.toNat ≤ c'.alignedError.toNat
  notAlignedOk : c.notAlignedOk.toNat ≤ c'.notAlignedOk.toNat
  notAlignedError : c.notAlignedError.toNat ≤ c'.notAlignedError.toNat
  alignmentLossEvents : c.alignmentLossEvents.toNat ≤ c'.alignmentLossEvents.toNat
  badChannelIdEvents : c.badChannelIdEvents.toNat ≤ c'.badChannelIdEvents.toNat

/-- Four counters of a bucket, none of which fell. -/
structure BucketRise (b b' : Bucket 32) : Prop where
  alignedOk : b.alignedOk.toNat ≤ b'.alignedOk.toNat
  alignedError : b.alignedError.toNat ≤ b'.alignedError.toNat
  notAlignedOk : b.notAlignedOk.toNat ≤ b'.notAlignedOk.toNat
  notAlignedError : b.notAlignedError.toNat ≤ b'.notAlignedError.toNat

theorem CountersRise.refl (c : Counters 32) : CountersRise c c := by constructor <;> exact Nat.le_refl _

theorem BucketRise.refl (b : Bucket 32) : BucketRise b b := by constructor <;> exact Nat.le_refl _

/-- An update under which no bucket falls lets no bucket of the array fall. -/
theorem BucketRise.updateBucket {f : Bucket 32 → Bucket 32} (hf : ∀ b, BucketBound 50000 b → BucketRise b (f b))
    (k : Chan) {v : Channels 32} {j : Nat} (hj : j < numBuckets) (hv : BucketBound 50000 v[j]) :
    BucketRise v[j] (updateBucket k f v)[j] := by
  rw [getElem_updateBucket]
  split
  · exact hf _ hv
  · exact .refl _

/-- No file counter falls in what a window counts. -/
theorem Counted.file_rise {s u : State} (h : Counted s u) (hb : CountersBound 50000 s.file) :
    CountersRise s.file u.file := by
  have hrefl := CountersRise.refl s.file
  cases h with
  | nothing => exact hrefl
  | filler => exact { hrefl with fillerFrames := toNat_le_add_one hb.fillerFrames }
  | alignedOk => exact { hrefl with alignedOk := toNat_le_add_one hb.alignedOk }
  | alignedError _ flag crcOk =>
    obtain ⟨b, hfile, -, hbad⟩ := reported_file_eq flag crcOk s
    rw [countAlignedError_file, hfile]
    exact { hrefl with
      alignedError := toNat_le_add_one hb.alignedError
      badChannelIdEvents := hbad hb.badChannelIdEvents }
  | alignmentLoss flag crcOk =>
    obtain ⟨b, hfile, -, hbad⟩ := reported_file_eq flag crcOk s
    rw [countAlignmentLoss_file, hfile]
    exact { hrefl with
      alignmentLossEvents := toNat_le_add_one hb.alignmentLossEvents
      badChannelIdEvents := hbad hb.badChannelIdEvents }
  | notAlignedOk => exact { hrefl with notAlignedOk := toNat_le_add_one hb.notAlignedOk }
  | notAlignedError => exact { hrefl with notAlignedError := toNat_le_add_one hb.notAlignedError }

section
variable {b : Bucket 32} (hb : BucketBound 50000 b)
include hb

theorem bumpAlignedOk_rise : BucketRise b (bumpAlignedOk b) :=
  { BucketRise.refl b with alignedOk := toNat_le_add_one hb.alignedOk }

theorem bumpAlignedError_rise : BucketRise b (bumpAlignedError b) :=
  { BucketRise.refl b with alignedError := toNat_le_add_one hb.alignedError }

theorem bumpNotAlignedOk_rise : BucketRise b (bumpNotAlignedOk b) :=
  { BucketRise.refl b with notAlignedOk := toNat_le_add_one hb.notAlignedOk }

theorem bumpNotAlignedError_rise : BucketRise b (bumpNotAlignedError b) :=
  { BucketRise.refl b with notAlignedError := toNat_le_add_one hb.notAlignedError }

end

/-- No bucket's counter falls in what a window counts. -/
theorem Counted.fchan_rise {s u : State} (h : Counted s u) {j : Nat} (hj : j < numBuckets)
    (hb : BucketBound 50000 s.fchan[j]) : BucketRise s.fchan[j] u.fchan[j] := by
  cases h with
  | nothing | filler => exact .refl _
  | alignedOk => exact .updateBucket (fun _ => bumpAlignedOk_rise) _ hj hb
  | notAlignedOk => exact .updateBucket (fun _ => bumpNotAlignedOk_rise) _ hj hb
  | notAlignedError => exact .updateBucket (fun _ => bumpNotAlignedError_rise) _ hj hb
  | alignedError _ flag crcOk =>
    simp only [countAlignedError_fchan, reported_fchan]
    exact .updateBucket (fun _ => bumpAlignedError_rise) _ hj hb
  | alignmentLoss flag crcOk =>
    simp only [countAlignmentLoss_fchan, reported_fchan]
    exact .updateBucket (fun _ => bumpAlignedError_rise) _ hj hb

/-- Settles O54: a window counts up at most, far from every wrap point, and counts nothing in the run. -/
theorem countersRiseWithinBuffer : Obligations.CountersRiseWithinBuffer := by
  unfold Obligations.CountersRiseWithinBuffer
  intro s t hs hr hp h
  obtain ⟨u, hu, htu⟩ := step_counted hs.spec hr (eosAt_eq_false.mpr hp) h
  have he := evaluateWindow_countsAs s
  have hfile := hu.file_rise (by rw [he.file]; exact hs.fileSums.file_bound hs.classified_le)
  obtain ⟨hrun, hrchan, hbuffers⟩ := hu.run_eq
  rw [he.file, ← htu.file] at hfile
  obtain ⟨hfiller, hok, herror, hnok, hnerror, hloss, hbad⟩ := hfile
  refine ⟨hfiller, hok, herror, hnok, hnerror, hloss, hbad, htu.run.trans (hrun.trans he.run),
    htu.rchan.trans (hrchan.trans he.rchan), htu.buffersProcessed.trans (hbuffers.trans he.buffersProcessed),
    fun k hk => ?_⟩
  have hbucket := hu.fchan_rise hk (by simp only [he.fchan]; exact hs.fileSums.fchan_bound hs.classified_le k hk)
  simp only [he.fchan, ← htu.fchan] at hbucket
  obtain ⟨hok, herror, hnok, hnerror⟩ := hbucket
  exact ⟨hok, herror, hnok, hnerror⟩

/-! ## The commands by themselves (R82 to R92) -/

/-- A command that takes no idx decodes to its operation just where the idx is 0. -/
theorem decodeCmd_noIdx (idx : Chan) : decodeCmd (1#4 ++ idx) = noIdx idx .recFiller ∧
    decodeCmd (6#4 ++ idx) = noIdx idx .recAlignmentLoss ∧ decodeCmd (8#4 ++ idx) = noIdx idx .finalizeFile ∧
    decodeCmd (9#4 ++ idx) = noIdx idx .clearAll := by
  revert idx; decide

/-- A command that the decoder rejects faults (R93). -/
theorem fetchWord_of_rejected {cmd : BitVec 8} (hd : decodeCmd cmd = .error .badStatsCommand) (s : State) :
    fetchWord (.cmd8 cmd) s = .fault .badStatsCommand := by
  simp only [fetchWord, decode, hd]

/-- An idx where the op takes none is rejected. -/
theorem noIdx_of_ne {idx : Chan} (h : idx ≠ 0#4) (i : Instr) : noIdx idx i = .error .badStatsCommand := if_neg h

/-- A bucket after the update of bucket `k`, in the statements' form. -/
theorem getElem_updateBucket_ite {w : Nat} (k : Chan) (f : Bucket w → Bucket w) (v : Channels w) (j : Nat)
    (hj : j < numBuckets) : (updateBucket k f v)[j] = if j = k.toNat then f v[j] else v[j] := by
  simp only [getElem_updateBucket, eq_comm]

/-- Settles O32: the three updates, none with a bucket index to check. -/
theorem unbucketedCommandsCountOne : Obligations.UnbucketedCommandsCountOne := by
  unfold Obligations.UnbucketedCommandsCountOne
  refine ⟨fun s => rfl, fun s => ⟨_, rfl, getElem_updateBucket_ite ovfIndex bumpAlignedError s.fchan⟩, fun c s => rfl,
    fun idx s h => ?_, rfl, rfl, fun c => ?_⟩
  · obtain ⟨hfiller, hloss, -⟩ := decodeCmd_noIdx idx
    exact ⟨fetchWord_of_rejected (hfiller.trans (noIdx_of_ne h _)) s,
      fetchWord_of_rejected (hloss.trans (noIdx_of_ne h _)) s⟩
  · obtain ⟨-, -, -, -, hbad⟩ := decodeCmd_statsWord c
    exact hbad

/-- Settles O33: each command is its update where the bucket index is legal, and a fault where it is not. -/
theorem bucketCommandsCountOne : Obligations.BucketCommandsCountOne := by
  unfold Obligations.BucketCommandsCountOne
  refine ⟨fun k => ?_, fun k s => ⟨fun hk => ?_, fun hk => ?_⟩⟩
  · obtain ⟨hok, herror, hnok, hnerror, -⟩ := decodeCmd_statsWord k
    exact ⟨hok, herror, hnok, hnerror⟩
  · have hk : k.toNat < numBuckets := Nat.lt_succ_of_le hk
    exact ⟨⟨_, exec_recAlignedOk_of_legal hk s, getElem_updateBucket_ite k bumpAlignedOk s.fchan⟩,
      ⟨_, exec_recAlignedError_of_legal hk s, getElem_updateBucket_ite k bumpAlignedError s.fchan⟩,
      ⟨_, exec_recNotAlignedOk_of_legal hk s, getElem_updateBucket_ite k bumpNotAlignedOk s.fchan⟩,
      ⟨_, exec_recNotAlignedError_of_legal hk s, getElem_updateBucket_ite k bumpNotAlignedError s.fchan⟩⟩
  · have hk : ¬ k.toNat < numBuckets := Nat.not_lt.mpr hk
    exact ⟨withBucket_of_illegal hk, withBucket_of_illegal hk, withBucket_of_illegal hk, withBucket_of_illegal hk⟩

/-- IS_ALL_FILLER as one test of both counters (R90). -/
theorem isAllFiller_eq_decide {w : Nat} (c : Counters w) :
    isAllFiller c = decide (c.alignedOk = 0#w ∧ c.alignedError = 0#w) := by
  rw [Bool.decide_and]
  rfl

/-- Settles O34: the snapshot, the sums counter by counter and bucket by bucket, and the zeros. -/
theorem finalizeFileMergesAndClears : Obligations.FinalizeFileMergesAndClears := by
  unfold Obligations.FinalizeFileMergesAndClears
  refine ⟨rfl, fun s => ⟨mergeChannels s.rchan s.fchan, ?_, fun k hk => ?_⟩, fun idx s h => ?_⟩
  · rw [← isAllFiller_eq_decide]
    rfl
  · rw [mergeChannels, Vector.getElem_zipWith]
    rfl
  · obtain ⟨-, -, hfinalize, -⟩ := decodeCmd_noIdx idx
    exact fetchWord_of_rejected (hfinalize.trans (noIdx_of_ne h _)) s

/-- Settles O35: the zeros, field by field. -/
theorem clearAllZeroesCounters : Obligations.ClearAllZeroesCounters := by
  unfold Obligations.ClearAllZeroesCounters
  refine ⟨rfl, fun s => rfl, fun idx s h => ?_⟩
  obtain ⟨-, -, -, hclear⟩ := decodeCmd_noIdx idx
  exact fetchWord_of_rejected (hclear.trans (noIdx_of_ne h _)) s

/-! ## The illegal commands (R93) -/

/-- A reserved op is rejected whatever the idx. -/
theorem decodeCmd_of_reserved {op : Chan} (h : op = 0#4 ∨ 10 ≤ op.toNat) (idx : Chan) :
    decodeCmd (op ++ idx) = .error .badStatsCommand := by
  revert op idx; decide

/-- What a statistics command comes to: a fault or a next state, the fault just where `illegal` holds. -/
def FaultsExactly (illegal : Prop) (o : Result) : Prop :=
  (o = .fault .badStatsCommand ↔ illegal) ∧ (o = .fault .badStatsCommand ∨ ∃ t, o = .next t)

theorem FaultsExactly.fault {illegal : Prop} (h : illegal) : FaultsExactly illegal (.fault .badStatsCommand) :=
  ⟨iff_of_true rfl h, .inl rfl⟩

theorem FaultsExactly.next {illegal : Prop} (h : ¬ illegal) (t : State) : FaultsExactly illegal (.next t) :=
  ⟨iff_of_false nofun h, .inr ⟨t, rfl⟩⟩

theorem FaultsExactly.withBucket (k : Chan) (t : State) : FaultsExactly (10 < k.toNat) (withBucket k t) := by
  unfold Machine.withBucket
  split
  · exact .next (Nat.not_lt.mpr (Nat.le_of_lt_succ ‹_›)) t
  · exact .fault (Nat.not_lt.mp ‹_›)

/-- A waiting statistics command that the decoder rejects faults. -/
theorem step_of_rejected {s : State} {cmd : BitVec 8} {rest : List OpWord} (hx : s.inbox = .cmd8 cmd :: rest)
    (hd : decodeCmd cmd = .error .badStatsCommand) : step s = .fault .badStatsCommand := by
  simp only [step, fetch_waiting hx nofun, fetchWord_of_rejected hd]

/-- A waiting command that takes no idx faults just where it has one. -/
theorem step_noIdx {s : State} {cmd : BitVec 8} {idx : Chan} {rest : List OpWord} {i : Instr} {f : State → State}
    (hx : s.inbox = .cmd8 cmd :: rest) (hd : decodeCmd cmd = noIdx idx i) (hi : ∀ u, exec i u = .next (f u)) :
    FaultsExactly (idx ≠ 0#4) (step s) := by
  by_cases h : idx = 0#4
  · rw [step_waiting hx (hd.trans (if_pos h)) nofun, hi]
    exact .next (not_not.mpr h) _
  · rw [step_of_rejected hx (hd.trans (noIdx_of_ne h i))]
    exact .fault h

/-- A waiting command with a bucket index faults just where that is none. -/
theorem step_bucketed {s : State} {cmd : BitVec 8} {k : Chan} {rest : List OpWord} {i : Instr} {f : State → State}
    (hx : s.inbox = .cmd8 cmd :: rest) (hd : decodeCmd cmd = .ok i) (hi : ∀ u, exec i u = withBucket k (f u)) :
    FaultsExactly (10 < k.toNat) (step s) := by
  rw [step_waiting hx hd nofun, hi]
  exact .withBucket k _

/-- The illegal commands of R93: a reserved op, an idx where the op takes none, a bucket index above 10. -/
def IllegalStats (op idx : Chan) : Prop :=
  op = 0#4 ∨ 10 ≤ op.toNat ∨ ((op = 1#4 ∨ op = 6#4 ∨ op = 8#4 ∨ op = 9#4) ∧ idx ≠ 0#4) ∨
    ((op = 2#4 ∨ op = 3#4 ∨ op = 4#4 ∨ op = 5#4) ∧ 10 < idx.toNat)

theorem illegalStats_of_noIdx {op : Chan} (h : op = 1#4 ∨ op = 6#4 ∨ op = 8#4 ∨ op = 9#4) (idx : Chan) :
    IllegalStats op idx ↔ idx ≠ 0#4 := by
  rcases h with rfl | rfl | rfl | rfl <;> simp [IllegalStats]

theorem illegalStats_of_bucket {op : Chan} (h : op = 2#4 ∨ op = 3#4 ∨ op = 4#4 ∨ op = 5#4) (idx : Chan) :
    IllegalStats op idx ↔ 10 < idx.toNat := by
  rcases h with rfl | rfl | rfl | rfl <;> simp [IllegalStats]

theorem not_illegalStats_channel (idx : Chan) : ¬ IllegalStats 7#4 idx := by simp [IllegalStats]

/-- The four ways of an op: reserved, without idx, with a bucket index, with a channel id. -/
theorem op_cases (op : Chan) : (op = 0#4 ∨ 10 ≤ op.toNat) ∨ (op = 1#4 ∨ op = 6#4 ∨ op = 8#4 ∨ op = 9#4) ∨
    (op = 2#4 ∨ op = 3#4 ∨ op = 4#4 ∨ op = 5#4) ∨ op = 7#4 := by
  revert op; decide

/-- Settles O36: a reserved op faults, an op without idx just where one stands there, an op with a bucket index just
where that is none, and a channel id is never illegal. -/
theorem illegalStatsCommandsFault : Obligations.IllegalStatsCommandsFault := by
  unfold Obligations.IllegalStatsCommandsFault
  intro op idx s rest hx
  change FaultsExactly (IllegalStats op idx) (step s)
  rcases op_cases op with hreserved | hnoIdx | hbucket | rfl
  · rw [step_of_rejected hx (decodeCmd_of_reserved hreserved idx)]
    exact .fault (or_assoc.mp (.inl hreserved))
  · rw [illegalStats_of_noIdx hnoIdx]
    obtain ⟨hfiller, hloss, hfinalize, hclear⟩ := decodeCmd_noIdx idx
    rcases hnoIdx with rfl | rfl | rfl | rfl
    · exact step_noIdx hx hfiller fun _ => rfl
    · exact step_noIdx hx hloss fun _ => rfl
    · exact step_noIdx hx hfinalize fun _ => rfl
    · exact step_noIdx hx hclear fun _ => rfl
  · rw [illegalStats_of_bucket hbucket]
    obtain ⟨hok, herror, hnok, hnerror, -⟩ := decodeCmd_statsWord idx
    rcases hbucket with rfl | rfl | rfl | rfl
    · exact step_bucketed hx hok fun _ => rfl
    · exact step_bucketed hx herror fun _ => rfl
    · exact step_bucketed hx hnok fun _ => rfl
    · exact step_bucketed hx hnerror fun _ => rfl
  · obtain ⟨-, -, -, -, hbad⟩ := decodeCmd_statsWord idx
    rw [step_waiting hx hbad nofun]
    exact .next (not_illegalStats_channel idx) (countBadChannelId _)

end Sys2Proof.Machine

/-!
The statements of 45_host_interface.md. Each host command is one equation of its meaning. Of a buffer's steps the last
emits the summary of its file and those before it emit records and warnings, so that a transaction is an induction on
the windows left (`BufferEnd`). A scan over zero-words stays in one family of states (`zeroScanned`). The record streams
are projections of one list of pairs.
-/

namespace Sys2Proof.Machine

/-! ## The commands (R97, R98, R99) -/

/-- Settles O38: CLEAR_ALL and the elements that R97 names, with free values in the others. -/
theorem hostResetLeavesResetState : Obligations.HostResetLeavesResetState := by
  unfold Obligations.HostResetLeavesResetState
  exact ⟨rfl, fun s => ⟨_, _, _, _, rfl⟩, _, _, _, rfl⟩

/-- HOST_RUN_BUFFER with a read that fits is ASM_LOAD from the RUNNING state (R98). -/
theorem exec_hostRunBuffer_of_le {raw : List Word} (h : raw.length ≤ bufWords) (s : State) :
    exec (.hostRunBuffer raw) s = .next (loadRead raw { s with phase := .running }) := if_pos h

/-- While IDLE a waiting HOST_RUN_BUFFER is taken and starts its buffer (R96, R98). -/
theorem step_hostRunBuffer {s : State} {raw : List Word} {rest : List OpWord} (hx : s.inbox = .host2 1#2 raw :: rest)
    (hi : s.phase = .idle) (h : raw.length ≤ bufWords) :
    step s = .next (loadRead raw { s with inbox := rest, phase := .running }) := by
  rw [step_waiting hx rfl fun _ => hi, exec_hostRunBuffer_of_le h]

/-- HOST_RUN_BUFFER as one transaction drains what ASM_LOAD has loaded (R98). -/
theorem runTransaction_of_le {raw : List Word} (h : raw.length ≤ bufWords) (s : State) :
    runTransaction raw s = drain (49993 + 1) (loadRead raw { s with phase := .running }) := by
  rw [runTransaction, exec_hostRunBuffer_of_le h, andThen_next, maxSteps_eq]

/-- Settles O39: both commands are the same load, which reads neither `B` nor `W`. -/
theorem hostRunBufferLoadsAndRuns : Obligations.HostRunBufferLoadsAndRuns := by
  unfold Obligations.HostRunBufferLoadsAndRuns
  exact fun raw s h => ⟨_, exec_asmLoad_of_le h _, exec_hostRunBuffer_of_le h s, rfl,
    fun b w => exec_hostRunBuffer_of_le h { s with buffer := b, window := w }⟩

/-- Settles O40: one event, the snapshot of the run totals. -/
theorem hostReadRunReportsTotals : Obligations.HostReadRunReportsTotals := by
  unfold Obligations.HostReadRunReportsTotals
  exact ⟨rfl, fun s => rfl⟩

/-! ## The readout map (R100) -/

/-- Index `10 + 4k + f` of the readout map is field `f` of bucket `k`. -/
theorem readout_bucket (r : RunSummary) {k f : Nat} (hk : k < numBuckets) (hf : f < 4) :
    readout r (10 + 4 * k + f) = bucketField r.channels[k] f := by
  have hindex : 10 + 4 * k + f = 4 * k + f + 10 := by omega
  have hbucket : (4 * k + f) / 4 = k := by omega
  have hfield : (4 * k + f) % 4 = f := by omega
  rw [hindex]
  simp only [readout, hbucket, hfield, hk, dite_true]

/-- Past the last bucket the readout map has no field. -/
theorem readout_of_ge (r : RunSummary) {i : Nat} (hi : 54 ≤ i) : readout r i = none := by
  obtain ⟨n, rfl⟩ : ∃ n, i = n + 10 := ⟨i - 10, by omega⟩
  have hbucket : ¬ n / 4 < numBuckets := by
    change ¬ n / 4 < 11
    omega
  exact dif_neg hbucket

/-- Settles O41: the ten fields before the buckets, the four fields of each bucket, and the end of the map. -/
theorem readoutMapFields : Obligations.ReadoutMapFields := by
  unfold Obligations.ReadoutMapFields
  refine fun r => ⟨rfl, rfl, rfl, rfl, rfl, rfl, rfl, rfl, rfl, ?_, fun k hk => ?_, fun i hi => readout_of_ge r hi⟩
  · cases halign : r.alignment <;> simp [readout, halign, alignedBit, bit]
  · have hfield {f : Nat} (hf : f < 4) := readout_bucket r hk hf
    exact ⟨hfield (f := 0) (by decide), hfield (by decide), hfield (by decide), hfield (by decide)⟩

/-! ## The last step of a buffer, and the steps before it (R98, R101) -/

/-- The last step of a buffer emits the summary of the file counters, and nothing else (R89). -/
theorem step_endOfStream_out {s t : State} (hh : HostOnly s) (hr : s.phase = .running) (he : eosAt s.p = true)
    (h : step s = .next t) : t.out = s.out ++ [.fileSummary (fileSummary s)] := by
  obtain ⟨a, houtcome⟩ := step_running_outcome_acc hh hr h
  cases houtcome with
  | eosFinalize => rfl
  | _ hw => exact nomatch he.symm.trans hw

theorem isWindowEvent_windowReports (s : State) : (windowReports s).all isWindowEvent = true := by
  unfold windowReports; split <;> rfl

theorem isWindowEvent_windowRecords (s : State) : (windowRecords s).all isWindowEvent = true := by
  unfold windowRecords; split <;> rfl

/-- The reports and records of a window are events of a window. -/
theorem isWindowEvent_windowEvents (s : State) : (windowReports s ++ windowRecords s).all isWindowEvent = true := by
  rw [List.all_append, isWindowEvent_windowReports, isWindowEvent_windowRecords, Bool.and_self]

/-- A window step that is not the last of its buffer takes no waiting command and stays RUNNING. -/
theorem step_window_inbox {s t : State} (hh : HostOnly s) (hr : s.phase = .running) (hw : eosAt s.p = false)
    (h : step s = .next t) : t.inbox = s.inbox ∧ t.phase = .running := by
  cases step_streamMove hh hr hw h with
  | frame stands | word stands => exact ⟨stands.inbox, stands.phase.trans hr⟩

/-- A window step that is not the last counts no buffer (R95 (6)). -/
theorem SpecRun.step_window_buffersProcessed {s t : State} (hs : SpecRun s) (hr : s.phase = .running)
    (hw : eosAt s.p = false) (h : step s = .next t) : t.buffersProcessed = s.buffersProcessed := by
  obtain ⟨u, hu, htu⟩ := step_counted hs hr hw h
  obtain ⟨-, -, hprocessed⟩ := hu.run_eq
  exact htu.buffersProcessed.trans (hprocessed.trans (evaluateWindow_countsAs s).buffersProcessed)

/-! ## No command is taken while RUNNING (R96) -/

/-- Settles O44: the last step makes the block IDLE, the others keep it RUNNING, and none takes a command. -/
theorem hostWaitsForRunningBuffer : Obligations.HostWaitsForRunningBuffer := by
  unfold Obligations.HostWaitsForRunningBuffer
  intro s t hh hr h
  rw [← eosAt_eq_true]
  cases he : eosAt s.p with
  | true =>
    obtain ⟨hidle, hinbox⟩ := step_endOfStream hh hr he h
    exact ⟨hinbox, iff_of_true hidle rfl⟩
  | false =>
    obtain ⟨hinbox, hrunning⟩ := step_window_inbox hh hr he h
    exact ⟨hinbox, iff_of_false (by rw [hrunning]; nofun) Bool.false_ne_true⟩

/-! ## Events are appended (R101) -/

/-- `t` has the output of `s` with at most `n` events appended. -/
def Appends (n : Nat) (s t : State) : Prop := ∃ events, t.out = s.out ++ events ∧ events.length ≤ n

theorem Appends.none {n : Nat} {s t : State} (h : t.out = s.out) : Appends n s t :=
  ⟨[], by rw [h, List.append_nil], Nat.zero_le n⟩

theorem Appends.keep {n : Nat} {s t u : State} (h : Appends n s t) (hu : u.out = t.out) : Appends (n + 1) s u := by
  obtain ⟨events, hout, hlength⟩ := h
  exact ⟨events, hu.trans hout, hlength.trans (Nat.le_succ n)⟩

/-- One event after at most `n` others. -/
theorem Appends.emit {n : Nat} {s t u : State} {e : Event} (h : Appends n s t) (hu : u.out = t.out ++ [e]) :
    Appends (n + 1) s u := by
  obtain ⟨events, hout, hlength⟩ := h
  refine ⟨events ++ [e], by rw [hu, hout, List.append_assoc], ?_⟩
  rw [List.length_append]
  exact Nat.succ_le_succ hlength

theorem Appends.one {n : Nat} {s t : State} {e : Event} (h : t.out = s.out ++ [e]) : Appends (n + 1) s t :=
  (Appends.none rfl).emit h

/-- BAD_CHANNEL where the channel is invalid appends its report at most. -/
theorem reported_appends (flag crcOk : Bool) (s : State) : Appends 1 s (reported flag crcOk s) := by
  unfold reported
  split
  · exact .none rfl
  · exact .one rfl

/-- Each operation appends at most two events; A_DATA_ERROR alone can append both a report and a record. -/
theorem exec_appends {i : Instr} {s t : State} (h : exec i s = .next t) : Appends 2 s t := by
  cases i with
  | asmLoad raw | hostRunBuffer raw =>
    simp only [exec, execAsmLoad, execHostRunBuffer] at h
    split at h
    · cases h
      exact .none rfl
    · cases h
  | aDataError =>
    rw [exec, execADataError_eq] at h
    cases h
    exact (reported_appends true false s).emit rfl
  | aLossCrc =>
    rw [exec, execALossCrc_eq] at h
    cases h
    exact (reported_appends false false s).keep (resumeAfterLoss_out _)
  | aLossChannel =>
    rw [exec, execALossChannel_eq] at h
    cases h
    exact .one (resumeAfterLoss_out _)
  | badChannel channel flag crcOk =>
    rw [exec, execBadChannel, reportBadChannel_eq] at h
    cases h
    exact .one rfl
  | eosFinalize | finalizeFile | hostReadRun =>
    cases h
    exact .one rfl
  | aDataOk | uDrOk | uDrError =>
    simp only [exec, execADataOk_eq, execUDrOk_eq, execUDrError_eq, andThen_eq_next, withBucket_eq_next] at h
    obtain ⟨_, ⟨-, rfl⟩, h⟩ := h
    cases h
    exact .none rfl
  | recAlignedOk k | recAlignedError k | recNotAlignedOk k | recNotAlignedError k =>
    obtain ⟨-, rfl⟩ := withBucket_eq_next.mp h
    exact .none rfl
  | _ =>
    cases h
    exact .none rfl

/-- A step runs at most one operation, from the output as it stands. -/
theorem step_appends {s t : State} (h : step s = .next t) : Appends 2 s t := by
  unfold step at h
  cases hf : fetch s with
  | run i u =>
    rw [hf] at h
    obtain ⟨a, rest, rfl⟩ := fetch_run_eq hf
    obtain ⟨events, hout, hlength⟩ := exec_appends h
    exact ⟨events, hout, hlength⟩
  | wait =>
    rw [hf] at h
    cases h
    exact .none rfl
  | fault r | refused r =>
    rw [hf] at h
    cases h

/-- Settles O45: at most two events a step, the window's own where it is not the last, the summary where it is. -/
theorem outputOnlyGrows : Obligations.OutputOnlyGrows := by
  unfold Obligations.OutputOnlyGrows
  refine ⟨fun _ _ => step_appends, fun s t hh hr h => ⟨fun hw => ?_, fun he => ?_⟩, fun s => ⟨_, rfl, rfl⟩,
    fun s => ⟨_, _, rfl, rfl⟩⟩
  · exact ⟨_, step_window_out hh hr (eosAt_eq_false.mpr hw) h, isWindowEvent_windowEvents s⟩
  · exact ⟨fileSummary s, step_endOfStream_out hh hr (eosAt_eq_true.mpr he) h, rfl⟩

/-! ## The record streams (R102) -/

theorem errorRecords_cons_of_kind_ne {e : Event} (he : e.kind ≠ 1) (events : List Event) :
    errorRecords (e :: events) = errorRecords events := by
  cases e with
  | errorRecord r => exact absurd rfl he
  | badChannel r | fileSummary r | runSummary r => rfl

/-- The second components of the pairs with a given first component, picked by index from all second components. -/
theorem map_snd_filter_fst_eq {α β : Type} [BEq α] (a : α) (l : List (α × β)) :
    (l.filter fun x => x.1 == a).map Prod.snd =
      ((List.range l.length).filter fun i => (l[i]?.map Prod.fst) == some a).filterMap fun i =>
        (l.map Prod.snd)[i]? := by
  induction l with
  | nil => rfl
  | cons x l ih =>
    have hrest : (((List.range l.length).map Nat.succ).filter fun i => ((x :: l)[i]?.map Prod.fst) == some a).filterMap
        (fun i => ((x :: l).map Prod.snd)[i]?) = (l.filter fun x => x.1 == a).map Prod.snd := by
      rw [ih, List.filter_map, List.filterMap_map]
      rfl
    rw [List.length_cons, List.range_succ_eq_map, List.filter_cons, List.filter_cons]
    cases hx : x.1 == a <;> simpa [hx] using hrest.symm

/-- The aggregate stream as the lines of the records. -/
theorem aggregateStream_eq_zipWith (times : List String) (events : List Event) :
    aggregateStream times events = List.zipWith errorRecordLine times (errorRecords events) := by
  rw [aggregateStream, recordLines, List.map_zipWith]

section
variable {times : List String} {events : List Event} (h : times.length = (errorRecords events).length)
include h

theorem length_aggregateStream : (aggregateStream times events).length = (errorRecords events).length := by
  rw [aggregateStream_eq_zipWith, List.length_zipWith, h, Nat.min_self]

/-- Line `i` of the aggregate stream is the line of record `i` with capture time `i`. -/
theorem getElem?_aggregateStream (i : Nat) (hi : i < (errorRecords events).length) :
    (aggregateStream times events)[i]? = some (errorRecordLine (times.getD i "") ((errorRecords events)[i])) := by
  have hit : i < times.length := by rw [h]; exact hi
  rw [aggregateStream_eq_zipWith, List.getElem?_zipWith, List.getElem?_eq_getElem hit, List.getElem?_eq_getElem hi,
    List.getD_eq_getElem _ _ hit]

/-- With one capture time a record, the channels of the lines are those of the records. -/
theorem map_fst_recordLines :
    (recordLines times events).map Prod.fst = (errorRecords events).map ErrorRecord.channel := by
  apply List.ext_getElem
  · simp [recordLines, h]
  · intro i _ _
    simp [recordLines]

theorem length_recordLines : (recordLines times events).length = (errorRecords events).length := by
  rw [recordLines, List.length_zipWith, h, Nat.min_self]

/-- The stream of a raw channel is the aggregate's lines at the indices of that channel's records. -/
theorem channelStream_eq_filterMap (ch : Chan) : channelStream ch times events =
    ((List.range (errorRecords events).length).filter fun i =>
      ((errorRecords events)[i]?.map ErrorRecord.channel) == some ch).filterMap fun i =>
        (aggregateStream times events)[i]? := by
  have hchannel : ∀ i, (recordLines times events)[i]?.map Prod.fst =
      (errorRecords events)[i]?.map ErrorRecord.channel := fun i => by
    rw [← List.getElem?_map, ← List.getElem?_map, map_fst_recordLines h]
  rw [← length_recordLines h]
  simp only [← hchannel]
  exact map_snd_filter_fst_eq ch (recordLines times events)

/-- The stream of a raw channel has one line for each of that channel's records. -/
theorem length_channelStream (ch : Chan) : (channelStream ch times events).length =
    ((errorRecords events).filter fun r => r.channel == ch).length := by
  have hcount := congrArg (List.countP (· == ch)) (map_fst_recordLines h)
  rw [List.countP_map, List.countP_map] at hcount
  rw [channelStream, List.length_map, ← List.countP_eq_length_filter, ← List.countP_eq_length_filter]
  exact hcount

end

/-- Each line of a channel's stream stands in the aggregate stream. -/
theorem mem_aggregateStream_of_mem_channelStream {ch : Chan} {times : List String} {events : List Event} {line : String}
    (hl : line ∈ channelStream ch times events) : line ∈ aggregateStream times events :=
  (List.filter_sublist.map Prod.snd).subset hl

/-- Settles O46: the records, the columns of a line, and the streams as projections of the records' lines. -/
theorem recordStreamsPartitionAggregate : Obligations.RecordStreamsPartitionAggregate := by
  unfold Obligations.RecordStreamsPartitionAggregate
  exact ⟨⟨rfl, fun _ _ => rfl, fun _ events he => errorRecords_cons_of_kind_ne he events⟩, fun _ _ => rfl,
    fun _ _ h => ⟨length_aggregateStream h, getElem?_aggregateStream h, channelStream_eq_filterMap h,
      length_channelStream h, fun _ _ => mem_aggregateStream_of_mem_channelStream⟩⟩

/-! ## A transaction (R98) -/

/-- `t` is `s` with its buffer drained: IDLE, events of windows and then one summary appended, one buffer counted, the
file counters 0, the same commands waiting. -/
structure BufferEnd (s t : State) : Prop where
  idle : t.phase = .idle
  out : ∃ (events : List Event) (r : FileSummary), t.out = s.out ++ events ++ [.fileSummary r] ∧
    events.all isWindowEvent = true ∧ r.fileIndex = s.buffersProcessed
  buffersProcessed : t.buffersProcessed = s.buffersProcessed + 1#64
  file : t.file = Counters.zero fileCtrBits
  fchan : t.fchan = Channels.zero fileCtrBits
  inbox : t.inbox = s.inbox

/-- The last step drains a buffer. -/
theorem BufferEnd.of_endOfStream {s t : State} (hh : HostOnly s) (hr : s.phase = .running) (he : eosAt s.p = true)
    (h : step s = .next t) : BufferEnd s t := by
  obtain ⟨hidle, hinbox⟩ := step_endOfStream hh hr he h
  have hc := step_endOfStream_countsAs hh hr he h
  have hprocessed := (evaluateWindow_countsAs s).buffersProcessed
  exact {
    idle := hidle
    out := ⟨[], fileSummary s, by rw [List.append_nil]; exact step_endOfStream_out hh hr he h, rfl, rfl⟩
    buffersProcessed := by rw [hc.buffersProcessed, mergeFile_buffersProcessed, hprocessed]
    file := hc.file
    fchan := hc.fchan
    inbox := hinbox }

/-- A window before the drained rest puts its own events first. -/
theorem BufferEnd.of_window {s u t : State} (hs : SpecRun s) (hr : s.phase = .running) (hw : eosAt s.p = false)
    (h : step s = .next u) (hu : BufferEnd u t) : BufferEnd s t := by
  have hprocessed := hs.step_window_buffersProcessed hr hw h
  obtain ⟨hinbox, -⟩ := step_window_inbox hs.hostOnly hr hw h
  obtain ⟨events, r, hout, hevents, hindex⟩ := hu.out
  refine {
    idle := hu.idle
    out := ⟨windowReports s ++ windowRecords s ++ events, r, ?_, ?_, hindex.trans hprocessed⟩
    buffersProcessed := by rw [hu.buffersProcessed, hprocessed]
    file := hu.file
    fchan := hu.fchan
    inbox := hu.inbox.trans hinbox }
  · rw [hout, step_window_out hs.hostOnly hr hw h]
    simp only [List.append_assoc]
  · rw [List.all_append, isWindowEvent_windowEvents, hevents, Bool.and_self]

/-- With at most `n` windows left from the position on, `n + 1` steps drain the buffer, and at most so many steps of the
machine lead to the same state. -/
theorem SpecRun.drain_to_end (n : Nat) {s : State} (hs : SpecRun s) (hr : s.phase = .running)
    (hn : 49993 ≤ s.p.toNat + n) : ∃ (k : Nat) (t : State), k ≤ n + 1 ∧ drain (n + 1) s = .next t ∧
      Host.Core.run Sys2Proof.core k s = .next t ∧ BufferEnd s t := by
  induction n generalizing s with
  | zero =>
    obtain ⟨t, ht⟩ := hs.exists_step_running hr
    have he : eosAt s.p = true := eosAt_eq_true.mpr (by omega)
    exact ⟨1, t, Nat.le_refl 1, drain_running 0 hs.hostOnly hr ht, core_run_next 0 ht,
      .of_endOfStream hs.hostOnly hr he ht⟩
  | succ n ih =>
    obtain ⟨t, ht⟩ := hs.exists_step_running hr
    have hdrain := drain_running (n + 1) hs.hostOnly hr ht
    cases he : eosAt s.p with
    | true =>
      have hend : BufferEnd s t := .of_endOfStream hs.hostOnly hr he ht
      exact ⟨1, t, Nat.le_add_left .., hdrain.trans (drain_idle _ hend.idle), core_run_next 0 ht, hend⟩
    | false =>
      obtain ⟨hst, hrt, hforward⟩ := hs.step_window hr he ht
      obtain ⟨k, u, hk, hrest, hrun, hend⟩ := ih hst hrt (by omega)
      exact ⟨k + 1, u, Nat.succ_le_succ hk, hdrain.trans hrest, (core_run_next k ht).trans hrun,
        .of_window hs hr he ht hend⟩

/-- Settles O57: ASM_LOAD leaves a RUNNING state at position 0, from which at most 49993 windows are left; the machine
takes one step more, which takes the command. -/
theorem transactionEndsInOneSummary : Obligations.TransactionEndsInOneSummary := by
  unfold Obligations.TransactionEndsInOneSummary
  intro raw s hs hi hraw
  have hloaded : SpecRun (loadRead raw { s with phase := .running }) := ⟨hs.hostOnly, hs.accepted⟩
  obtain ⟨k, t, hk, hdrain, hrun, hend⟩ := hloaded.drain_to_end 49993 rfl (Nat.le_add_left ..)
  obtain ⟨events, r, hout, hevents, hindex⟩ := hend.out
  have htake : step { s with inbox := .host2 1#2 raw :: s.inbox } = .next (loadRead raw { s with phase := .running }) :=
    step_hostRunBuffer rfl hi hraw
  exact ⟨t, events, r, k + 1, (runTransaction_of_le hraw s).trans hdrain, hend.idle, hout, hevents, hindex,
    hend.buffersProcessed, hend.file, hend.fchan, hend.inbox, Nat.succ_le_succ hk, (core_run_next k htake).trans hrun⟩

/-! ## A buffer of zero-words (R72, R98) -/

/-- The window of eight zero-words. -/
def zeroWindow : Window := ⟨0#32, 0#32, 0#32, 0#32, 0#32, 0#32, 0#32, 0#32⟩

theorem frameOfWindow_zeroWindow : frameOfWindow zeroWindow = 0#256 := by decide

theorem syncPattern_ne_zero_of_accepted {c : Config} (h : configAccepted c = true) : c.syncPattern ≠ 0#256 := by
  simp only [configAccepted, Bool.and_eq_true, bne_iff_ne] at h
  obtain ⟨⟨⟨hsync, -⟩, -⟩, -⟩ := h
  exact hsync

/-- An UNALIGNED window is not evaluated (R55). -/
theorem evaluateWindow_of_unaligned {s : State} (ha : s.alignment = .unaligned) : evaluateWindow s = s := by
  simp [evaluateWindow, checksHere, alignedBit, ha]

/-- The step of an UNALIGNED block is the operation its window selects. -/
theorem step_of_unaligned {s : State} (hh : HostOnly s) (hr : s.phase = .running) (ha : s.alignment = .unaligned) :
    step s = exec (selectedOp s) s := by
  rw [← windowStep_eq_step hh hr, windowStep, evaluateWindow_of_unaligned ha]

/-- A block that scans zero-words under DR_RESIDUE 1: RUNNING and UNALIGNED, its window and buffer zero-words. -/
structure ZeroScan (s : State) : Prop where
  spec : SpecRun s
  running : s.phase = .running
  unaligned : s.alignment = .unaligned
  residue : s.config.drResidue = 1
  window : s.window = zeroWindow
  buffer : ∀ i, i < bufWords → tokenWord (bufferRead s.buffer i) = 0#32

theorem ZeroScan.frame {s : State} (hs : ZeroScan s) : s.frame = 0#256 := by
  rw [State.frame, hs.window, frameOfWindow_zeroWindow]

/-- No window of zero-words is SYNC_PATTERN, which is not 0 (R116 (1)). -/
theorem ZeroScan.syncHere {s : State} (hs : ZeroScan s) : syncHere s = false := by
  rw [syncHere_eq_false, hs.frame]
  exact (syncPattern_ne_zero_of_accepted hs.spec.accepted).symm

/-- A slide over zero-words moves the position and leaves the window as it is. -/
theorem ZeroScan.slideWord_eq {s : State} (hs : ZeroScan s) (p : Pos) : slideWord p s = { s with p := p + 1#16 } := by
  have hw : (slideWord p s).window = s.window := by
    rw [slideWord_window]
    split
    · rfl
    · rename_i he
      have hp := eosAt_eq_false.mp (Bool.eq_false_of_not_eq_true he)
      rw [hs.buffer _ (by rw [bufWords_eq]; omega), hs.window]
      rfl
  change { s with p := p + 1#16, window := (slideWord p s).window } = _
  rw [hw]

/-- A window of zero-words at a position of the residue is one U_DR_OK in bucket 0 (R72). -/
theorem ZeroScan.step_of_residue {s : State} (hs : ZeroScan s) (he : eosAt s.p = false) (hp : s.p.toNat % 8 = 1) :
    step s = .next (slideWord s.p (countNotAlignedOk 0#4 s)) := by
  have hresidue : residueHere s = true := residueHere_eq_true.mpr (hp.trans hs.residue.symm)
  have hflag : errorFlagOf s.frame = false := by rw [hs.frame]; decide
  have hbucket : clamp s.config (tentativeChannel s.frame) = 0#4 := by
    rw [hs.frame]
    exact clamp_of_valid _ (by decide)
  have hop : selectedOp s = .uDrOk := by
    simp [selectedOp_tree, he, hs.syncHere, hs.unaligned, alignedBit, hresidue, hflag]
  rw [step_of_unaligned hs.spec.hostOnly hs.running hs.unaligned, hop, exec,
    execUDrOk_of_legal (by rw [hbucket]; decide), hbucket]

/-- A window of zero-words at any other position is skipped (R74). -/
theorem ZeroScan.step_of_no_residue {s : State} (hs : ZeroScan s) (he : eosAt s.p = false) (hp : s.p.toNat % 8 ≠ 1) :
    step s = .next (slideWord s.p s) := by
  have hresidue : residueHere s = false := by
    rw [← Bool.not_eq_true, residueHere_eq_true, hs.residue]
    exact hp
  have hop : selectedOp s = .uSkip := by
    simp [selectedOp_tree, he, hs.syncHere, hs.unaligned, alignedBit, hresidue]
  rw [step_of_unaligned hs.spec.hostOnly hs.running hs.unaligned, hop]
  rfl

/-- A scan at its end finalizes its buffer (R65). -/
theorem ZeroScan.step_of_eos {s : State} (hs : ZeroScan s) (he : eosAt s.p = true) : step s = execEosFinalize s := by
  have hop : selectedOp s = .eosFinalize := by rw [selectedOp_tree, he]; rfl
  rw [step_of_unaligned hs.spec.hostOnly hs.running hs.unaligned, hop, exec]

/-- How many positions before `q` have the residue 1. -/
def residuesBefore (q : Nat) : Nat := (q + 6) / 8

/-- The state of a scan over zero-words at position `q`: the observations of the positions before `q`, in bucket 0. -/
def zeroScanned (s : State) (q : Nat) : State :=
  { s with
    p := BitVec.ofNat 16 q
    file := { Counters.zero fileCtrBits with notAlignedOk := BitVec.ofNat 32 (residuesBefore q) }
    fchan := (Channels.zero fileCtrBits).set 0
      { Bucket.zero fileCtrBits with notAlignedOk := BitVec.ofNat 32 (residuesBefore q) } }

theorem residuesBefore_succ (q : Nat) :
    residuesBefore (q + 1) = if q % 8 = 1 then residuesBefore q + 1 else residuesBefore q := by
  unfold residuesBefore
  split <;> omega

/-- At position 0 nothing is counted yet. -/
theorem zeroScanned_zero {s : State} (hp : s.p = 0#16) (hfile : s.file = Counters.zero fileCtrBits)
    (hfchan : s.fchan = Channels.zero fileCtrBits) : zeroScanned s 0 = s := by
  cases s
  cases hp
  cases hfile
  cases hfchan
  rfl

theorem ZeroScan.at_position {s : State} (hs : ZeroScan s) (q : Nat) : ZeroScan (zeroScanned s q) :=
  ⟨⟨hs.spec.hostOnly, hs.spec.accepted⟩, hs.running, hs.unaligned, hs.residue, hs.window, hs.buffer⟩

theorem zeroScanned_p_toNat (s : State) {q : Nat} (hq : q ≤ 49993) : (zeroScanned s q).p.toNat = q := by
  change (BitVec.ofNat 16 q).toNat = q
  rw [BitVec.toNat_ofNat]
  omega

/-- One more observation of a scan is one more in its file counter and in bucket 0. -/
theorem countNotAlignedOk_zeroScanned (s : State) {q : Nat} (hq : q % 8 = 1) :
    countNotAlignedOk 0#4 (zeroScanned s q) = { zeroScanned s (q + 1) with p := BitVec.ofNat 16 q } := by
  have hcount : BitVec.ofNat 32 (residuesBefore (q + 1)) = BitVec.ofNat 32 (residuesBefore q) + 1#32 := by
    rw [residuesBefore_succ, if_pos hq, BitVec.ofNat_add]
  have hbucket : updateBucket 0#4 bumpNotAlignedOk (zeroScanned s q).fchan = (zeroScanned s (q + 1)).fchan := by
    simp [updateBucket, zeroScanned, bumpNotAlignedOk, hcount]
  simp only [countNotAlignedOk, hbucket]
  simp only [zeroScanned, hcount]

/-- A window of a scan leads to the scan at the next position. -/
theorem ZeroScan.step_zeroScanned {s : State} (hs : ZeroScan s) {q : Nat} (hq : q + 8 ≤ 50000) :
    step (zeroScanned s q) = .next (zeroScanned s (q + 1)) := by
  have hscan := hs.at_position q
  have hp : (zeroScanned s q).p.toNat = q := zeroScanned_p_toNat s (by omega)
  have he : eosAt (zeroScanned s q).p = false := eosAt_eq_false.mpr (by omega)
  have hnext : BitVec.ofNat 16 q + 1#16 = BitVec.ofNat 16 (q + 1) := (BitVec.ofNat_add q 1).symm
  by_cases hresidue : q % 8 = 1
  · have hcounted : ZeroScan (countNotAlignedOk 0#4 (zeroScanned s q)) :=
      ⟨⟨hscan.spec.hostOnly, hscan.spec.accepted⟩, hscan.running, hscan.unaligned, hscan.residue, hscan.window,
        hscan.buffer⟩
    rw [hscan.step_of_residue he (by rw [hp, hresidue]), hcounted.slideWord_eq,
      countNotAlignedOk_zeroScanned s hresidue]
    simp only [zeroScanned, hnext]
  · rw [hscan.step_of_no_residue he (by rw [hp]; exact hresidue), hscan.slideWord_eq]
    simp only [zeroScanned, hnext, residuesBefore_succ, if_neg hresidue]

/-- With `m` windows left, a scan is drained to what EOS_FINALIZE makes of position 49993. -/
theorem ZeroScan.drain_zeroScanned {s : State} (hs : ZeroScan s) (m : Nat) {q : Nat} (hq : q + m = 49993) :
    drain (m + 1) (zeroScanned s q) = execEosFinalize (zeroScanned s 49993) := by
  have hscan := hs.at_position q
  induction m generalizing q with
  | zero =>
    obtain rfl : q = 49993 := hq
    have he : eosAt (zeroScanned s 49993).p = true := by
      rw [eosAt_eq_true, zeroScanned_p_toNat s (Nat.le_refl _)]
      decide
    have hstep := (hscan.step_of_eos he).trans (execEosFinalize_eq _)
    rw [drain_running 0 hscan.spec.hostOnly hscan.running hstep, execEosFinalize_eq, drain]
  | succ m ih =>
    rw [drain_running (m + 1) hscan.spec.hostOnly hscan.running (hs.step_zeroScanned (by omega))]
    exact ih (by omega) (hs.at_position (q + 1))

/-- The summary of a whole scan: 6249 positions have the residue 1. -/
theorem fileSummary_zeroScanned (s : State) : fileSummary (zeroScanned s 49993) =
    { fileIndex := s.buffersProcessed
      counters := ⟨0#32, 0#32, 0#32, 6249#32, 0#32, 0#32, 0#32⟩
      isAllFiller := true
      totalFrames := 6249#32
      channels := (Vector.replicate 11 ⟨0#32, 0#32, 0#32, 0#32⟩).set 0 ⟨0#32, 0#32, 6249#32, 0#32⟩ } := by
  have hcount : residuesBefore 49993 = 6249 := by decide
  simp only [fileSummary, zeroScanned, hcount]
  rfl

/-- Every word below the sentinel is 0 where a read of zero-words is padded with zero-words (R57). -/
theorem tokenWord_loadBuffer_replicate {n i : Nat} (hn : n ≤ bufWords) (hi : i < bufWords) :
    tokenWord (bufferRead (loadBuffer (List.replicate n 0#32)) i) = 0#32 := by
  rw [bufferRead_loadBuffer_of_lt (by rwa [List.length_replicate]) hi, tokenWord_dataToken,
    List.getD_eq_getElem?_getD, List.getElem?_getD_replicate_default_eq]

/-- A read of zero-words loads a scan. -/
theorem zeroScan_loadRead {s : State} {n : Nat} (hn : n ≤ bufWords) (hs : SpecRun s)
    (ha : s.alignment = .unaligned) (hd : s.config.drResidue = 1) :
    ZeroScan (loadRead (List.replicate n 0#32) { s with phase := .running }) where
  spec := ⟨hs.hostOnly, hs.accepted⟩
  running := rfl
  unaligned := ha
  residue := hd
  window := by
    have hword : ∀ j, j < 8 → tokenWord (bufferRead (loadBuffer (List.replicate n 0#32)) j) = 0#32 := fun j hj =>
      tokenWord_loadBuffer_replicate hn (Nat.lt_trans hj (by decide))
    simp [windowAt, zeroWindow, hword]
  buffer _ hi := tokenWord_loadBuffer_replicate hn hi

/-- Settles O59: the scan from position 0, whose summary has the observations of the positions before 49993. -/
theorem zeroBufferCounts : Obligations.ZeroBufferCounts := by
  unfold Obligations.ZeroBufferCounts
  intro n s hn hs hi ha hd
  obtain ⟨hfile, hfchan⟩ := hs.cleared hi
  have hdrain := (zeroScan_loadRead hn hs.spec ha hd).drain_zeroScanned 49993 (Nat.zero_add _)
  rw [zeroScanned_zero (s := loadRead _ { s with phase := .running }) rfl hfile hfchan, execEosFinalize_eq,
    fileSummary_zeroScanned] at hdrain
  exact ⟨_, (runTransaction_of_le (by rwa [List.length_replicate]) s).trans hdrain, ha, rfl⟩

end Sys2Proof.Machine

/-!
The statements of 60_exceptions.md. The conditions of a window are read off the operation it selects (`Raises`), and the
bad channel off the checked window, where the channel is looked at; the acceptance of R116 is the conjunction of its
tests, with a shared bit of two fields as the overlap of two nonempty intervals; a run keeps its configuration and takes
host commands only, of which none faults.
-/

namespace Sys2Proof.Machine

/-! ## The refusals of the host contract (R115) -/

/-- A read of more than BUF_WORDS words is refused (R98). -/
theorem exec_hostRunBuffer_of_gt {raw : List Word} (h : bufWords < raw.length) (s : State) :
    exec (.hostRunBuffer raw) s = .refused .oversizeRead := if_neg (Nat.not_le.mpr h)

/-- While IDLE a waiting word that decodes to the reserved host command is refused (R49). -/
theorem step_reservedHost {s : State} {ow : OpWord} {rest : List OpWord} (hx : s.inbox = ow :: rest)
    (hi : s.phase = .idle) (hd : decode ow = .error .reservedHostCommand) : step s = .refused .reservedHostCommand := by
  have hw : fetchWord ow { s with inbox := rest } = .refused .reservedHostCommand := by simp only [fetchWord, hd]
  simp only [step, fetch_waiting hx fun _ => hi, hw]

/-- Settles O42: the length test of HOST_RUN_BUFFER, the rejection of host code 3, and the test of instantiation. -/
theorem hostContractRefusals : Obligations.HostContractRefusals := by
  unfold Obligations.HostContractRefusals
  refine ⟨fun raw s h => exec_hostRunBuffer_of_gt h s, fun raw s rest hx hi => step_reservedHost hx hi rfl,
    fun c hc => ?_⟩
  rw [instantiate, hc, if_neg Bool.false_ne_true]

/-! ## The configurations of R116 -/

/-- Every LAYOUT field has a bit (R41). -/
theorem layoutFields_width_pos (l : Layout) : ∀ f ∈ layoutFields l, 0 < f.2 := by
  simp [layoutFields]

/-- Two fields with bits are apart just where they share none: else the higher of their lowest bits lies in both. -/
theorem fieldsApart_iff_no_shared_bit {a b : Nat × Nat} (ha : 0 < a.2) (hb : 0 < b.2) :
    fieldsApart a b ↔ ∀ i, ¬ (a.1 ≤ i ∧ i < a.1 + a.2 ∧ b.1 ≤ i ∧ i < b.1 + b.2) := by
  constructor
  · intro h i hi
    unfold fieldsApart at h
    omega
  · intro h
    have := h (max a.1 b.1)
    unfold fieldsApart
    omega

/-- R41's well-formedness of a LAYOUT, bit by bit. -/
theorem layoutWellFormed_iff (l : Layout) : layoutWellFormed l = true ↔
    (∀ f ∈ layoutFields l, 32 ≤ f.1 ∧ f.1 + f.2 ≤ 255) ∧
      (layoutFields l).Pairwise fun a b => ∀ i, ¬ (a.1 ≤ i ∧ i < a.1 + a.2 ∧ b.1 ≤ i ∧ i < b.1 + b.2) := by
  have hpairs : (layoutFields l).Pairwise fieldsApart ↔
      (layoutFields l).Pairwise fun a b => ∀ i, ¬ (a.1 ≤ i ∧ i < a.1 + a.2 ∧ b.1 ≤ i ∧ i < b.1 + b.2) :=
    List.Pairwise.iff_of_mem fun ha hb =>
      fieldsApart_iff_no_shared_bit (layoutFields_width_pos l _ ha) (layoutFields_width_pos l _ hb)
  rw [layoutWellFormed, Bool.and_eq_true, List.all_eq_true, decide_eq_true_iff, hpairs]
  simp only [decide_eq_true_iff]

/-- Settles O43: the four tests of R116, one by one, and the built block. -/
theorem acceptedConfigurations : Obligations.AcceptedConfigurations := by
  unfold Obligations.AcceptedConfigurations
  refine fun c => ⟨?_, fun hc => by rw [instantiate, if_pos hc]⟩
  rw [configAccepted, Bool.and_eq_true, Bool.and_eq_true, Bool.and_eq_true, bne_iff_ne, layoutWellFormed_iff,
    decide_eq_true_iff, decide_eq_true_iff, Nat.lt_succ_iff, and_assoc, and_assoc, and_assoc]
  rfl

/-! ## The conditions of a window (R109, R110, R113) -/

/-- What an operation raises (R109, R110): each list of conditions that one window can raise together, the bad channel
first, with the operations that raise it. -/
inductive Raises : Instr → List Condition → Prop
  | desyncCrc : Raises .aLossCrc [.desyncCrc]
  | badChannelDesyncCrc : Raises .aLossCrc [.badChannelId, .desyncCrc]
  | badChannelDesyncChannel : Raises .aLossChannel [.badChannelId, .desyncChannel]
  | badChannel : Raises .aDataError [.badChannelId]
  | syncNotFound {op : Instr} (h : op = .uDrOk ∨ op = .uDrError ∨ op = .uSkip) : Raises op [.syncNotFound]
  | nothing {op : Instr} (hcrc : op ≠ .aLossCrc) (hchannel : op ≠ .aLossChannel)
      (hfound : ¬ (op = .uDrOk ∨ op = .uDrError ∨ op = .uSkip)) : Raises op []

/-- The table of R109 lies within `Raises`. -/
theorem outcomeConditions_raises (op : Instr) (chValid : Bool) : Raises op (outcomeConditions op chValid) := by
  cases op with
  | aLossCrc =>
    cases chValid
    · exact .badChannelDesyncCrc
    · exact .desyncCrc
  | aLossChannel => exact .badChannelDesyncChannel
  | aDataError =>
    cases chValid
    · exact .badChannel
    · exact .nothing nofun nofun (by simp)
  | uDrOk | uDrError | uSkip => exact .syncNotFound (by simp)
  | _ => exact .nothing nofun nofun (by simp)

section
variable {op : Instr} {conditions : List Condition}

theorem Raises.desyncCrc_mem_iff (h : Raises op conditions) : .desyncCrc ∈ conditions ↔ op = .aLossCrc := by
  cases h with
  | syncNotFound h => rcases h with rfl | rfl | rfl <;> simp
  | nothing hcrc => simp [hcrc]
  | _ => simp

theorem Raises.desyncChannel_mem_iff (h : Raises op conditions) : .desyncChannel ∈ conditions ↔ op = .aLossChannel := by
  cases h with
  | syncNotFound h => rcases h with rfl | rfl | rfl <;> simp
  | nothing _ hchannel => simp [hchannel]
  | _ => simp

theorem Raises.syncNotFound_mem_iff (h : Raises op conditions) :
    .syncNotFound ∈ conditions ↔ op = .uDrOk ∨ op = .uDrError ∨ op = .uSkip := by
  cases h with
  | syncNotFound h => simp [h]
  | nothing _ _ hfound => simp [hfound]
  | _ => simp

theorem Raises.eq_aDataError (h : Raises op conditions) (hc : conditions = [.badChannelId]) : op = .aDataError := by
  cases h with
  | badChannel => rfl
  | _ => cases hc

/-- Six lists of conditions are possible (R110). -/
theorem Raises.mem_possible (h : Raises op conditions) : conditions ∈
    [[], [.desyncCrc], [.badChannelId, .desyncCrc], [.badChannelId, .desyncChannel], [.badChannelId],
     [Condition.syncNotFound]] := by
  cases h <;> decide

/-- A bad channel stands first (R110). -/
theorem Raises.head_eq_badChannelId (h : Raises op conditions) (hb : .badChannelId ∈ conditions) :
    conditions.head? = some .badChannelId := by
  cases h with
  | desyncCrc | syncNotFound | nothing => simp at hb
  | _ => rfl

/-- The conditions outside the block are never raised (R113). -/
theorem Raises.outside_not_mem (h : Raises op conditions) :
    .transportFailure ∉ conditions ∧ .malformedLogLine ∉ conditions := by
  cases h <;> decide

end

theorem windowConditions_of_eos {s : State} (he : eosAt s.p = true) : windowConditions s = [] := by
  rw [windowConditions, selectedOp_tree, if_pos he]; rfl

theorem windowConditions_of_sync {s : State} (hs : s.frame = s.config.syncPattern) : windowConditions s = [] := by
  rw [windowConditions, selectedOp_tree, syncHere_eq_true.mpr hs]
  cases eosAt s.p <;> cases alignedBit s.alignment <;> rfl

/-- An UNALIGNED whole window that is not SYNC_PATTERN raises the not-found condition alone. -/
theorem windowConditions_of_unaligned {s : State} (he : eosAt s.p = false) (ha : s.alignment = .unaligned)
    (hs : s.frame ≠ s.config.syncPattern) : windowConditions s = [.syncNotFound] := by
  rw [windowConditions, selectedOp_tree, he, syncHere_eq_false.mpr hs, ha]
  cases residueHere s <;> cases errorFlagOf s.frame <;> rfl

/-- On a checked window the bad channel is raised just where the channel is 9..15, whatever flag and checksum are. -/
theorem badChannelId_mem_of_checked {s : State} (he : eosAt s.p = false) (ha : s.alignment = .aligned)
    (hs : s.frame ≠ s.config.syncPattern) :
    .badChannelId ∈ windowConditions s ↔ channelValid s.decoded.channel = false := by
  rw [windowConditions, selectedOp_of_checked he ha hs]
  cases s.decoded.errorFlag <;> cases crcOkOf s.frame <;> cases channelValid s.decoded.channel <;> decide

/-- The bad channel is raised just on a checked window whose channel is 9..15 (R109). -/
theorem badChannelId_mem_windowConditions (s : State) : .badChannelId ∈ windowConditions s ↔
    eosAt s.p = false ∧ s.alignment = .aligned ∧ s.frame ≠ s.config.syncPattern ∧
      channelValid s.decoded.channel = false := by
  by_cases hs : s.frame = s.config.syncPattern
  · simp [windowConditions_of_sync hs, hs]
  · cases he : eosAt s.p with
    | true => simp [windowConditions_of_eos he]
    | false =>
      cases ha : s.alignment with
      | unaligned => simp [windowConditions_of_unaligned he ha hs]
      | aligned => simp [badChannelId_mem_of_checked he ha hs, hs]

/-- Settles O22: the bad channel is read off a checked window, all else off the selected operation. -/
theorem conditionsOfOneStep : Obligations.ConditionsOfOneStep := by
  unfold Obligations.ConditionsOfOneStep
  refine ⟨fun s => ?_, rfl⟩
  have h : Raises (selectedOp s) (windowConditions s) := outcomeConditions_raises _ _
  obtain ⟨htransport, hlog⟩ := h.outside_not_mem
  refine ⟨h.desyncCrc_mem_iff, h.desyncChannel_mem_iff, h.syncNotFound_mem_iff, ?_, h.head_eq_badChannelId, htransport,
    hlog, h.mem_possible, h.eq_aDataError,
    fun he => windowConditions_of_eos (eosAt_eq_true.mpr he), windowConditions_of_sync⟩
  rw [badChannelId_mem_windowConditions, eosAt_eq_false, channelValid_eq_false]

/-! ## A run never faults (R114) -/

/-- The only rejection of a host word is the reserved code (R47, R49). -/
theorem decodeHost_error {code : BitVec 2} {raw : List Word} {e : Reject} (h : decodeHost code raw = .error e) :
    e = .reservedHostCommand := by
  unfold decodeHost at h
  split at h <;> cases h
  rfl

/-- None of the three host commands faults: HOST_RUN_BUFFER is refused where its read is too long. -/
theorem exec_of_decodeHost_ne_fault {code : BitVec 2} {raw : List Word} {i : Instr} (hd : decodeHost code raw = .ok i)
    (s : State) (r : Fault) : exec i s ≠ .fault r := by
  unfold decodeHost at hd
  split at hd <;> cases hd
  · nofun
  · rcases Nat.lt_or_ge bufWords raw.length with h | h
    · rw [exec_hostRunBuffer_of_gt h]; nofun
    · rw [exec_hostRunBuffer_of_le h]; nofun
  · nofun

/-- A step of an IDLE block where only host commands wait does not fault. -/
theorem step_idle_ne_fault {s : State} (hh : HostOnly s) (hi : s.phase = .idle) (r : Fault) : step s ≠ .fault r := by
  cases hx : s.inbox with
  | nil => rw [step_idle_empty hx hi]; nofun
  | cons ow rest =>
    have how : ow.isHost = true := hh ow (by simp [hx])
    cases ow with
    | host2 code raw =>
      cases hd : decodeHost code raw with
      | ok i => rw [step_waiting hx hd fun _ => hi]; exact exec_of_decodeHost_ne_fault hd _ r
      | error e =>
        cases decodeHost_error hd
        rw [step_reservedHost hx hi hd]; nofun
    | cmd8 | sel7 | internal => cases how

/-- A step takes waiting words at most, so that only host commands wait after it. -/
theorem hostOnly_step {s t : State} (hh : HostOnly s) (h : step s = .next t) : HostOnly t := by
  cases hp : s.phase with
  | idle => exact (windowInv_step_idle (windowInv_of_idle hh hp) hp h).hostOnly
  | running =>
    obtain ⟨hinbox, -⟩ := hostWaitsForRunningBuffer s t hh hp h
    unfold HostOnly
    rw [hinbox]
    exact hh

/-- A step of a run stays in the run: the host's words and the configuration (R23). -/
theorem SpecRun.of_step {s t : State} (hs : SpecRun s) (h : step s = .next t) : SpecRun t :=
  ⟨hostOnly_step hs.hostOnly h, by rw [step_keepsConfig s t h]; exact hs.accepted⟩

/-- Settles O55: a window step of a run always answers, a step of the IDLE block takes a host command at most. -/
theorem specRunsNeverFault : Obligations.SpecRunsNeverFault := by
  unfold Obligations.SpecRunsNeverFault
  refine fun s hs => ⟨fun r => ?_, fun t => hs.of_step⟩
  cases hp : s.phase with
  | idle => exact step_idle_ne_fault hs.hostOnly hp r
  | running =>
    obtain ⟨t, ht⟩ := hs.exists_step_running hp
    rw [ht]; nofun

end Sys2Proof.Machine

/-!
The statements of 70_reset_and_hazards.md. In an UNALIGNED scan whose windows never match SYNC_PATTERN, every step but the
last is U_DR_OK, U_DR_ERROR or U_SKIP: it slides one word, counts a dead-reckoning observation at most, and leads to a
scan of the same buffer, so that the windows of the buffer are counted by the position.
-/

namespace Sys2Proof.Machine

/-! ## The window as the buffer has it (R16) -/

/-- A window is its eight words. -/
theorem window_eq_of_words {v v' : Window} (h : ∀ j, j < frameWords → windowWord v j = windowWord v' j) : v = v' := by
  have hword : ∀ j, j < 8 → windowWord v j = windowWord v' j := h
  cases v
  cases v'
  rw [Window.mk.injEq]
  exact ⟨hword 0 (by decide), hword 1 (by decide), hword 2 (by decide), hword 3 (by decide), hword 4 (by decide),
    hword 5 (by decide), hword 6 (by decide), hword 7 (by decide)⟩

/-- A faithful window is the window read at its position. -/
theorem WindowFaithful.window_eq {s : State} (hf : WindowFaithful s) (hw : eosAt s.p = false) :
    s.window = windowAt s.buffer s.p.toNat :=
  window_eq_of_words fun j hj => (hf hw j hj).trans (windowWord_windowAt _ _ j hj).symm

/-! ## An UNALIGNED scan with no match (R131, R136) -/

/-- From `s` to `t` a scan has recorded dead-reckoning observations at most: the buffer, the alignment, the output and
every counter of another kind are the same. -/
structure ReckonsOnly (s t : State) : Prop where
  buffer : t.buffer = s.buffer
  config : t.config = s.config
  alignment : t.alignment = s.alignment
  out : t.out = s.out
  fillerFrames : t.file.fillerFrames = s.file.fillerFrames
  alignedOk : t.file.alignedOk = s.file.alignedOk
  alignedError : t.file.alignedError = s.file.alignedError
  alignmentLossEvents : t.file.alignmentLossEvents = s.file.alignmentLossEvents
  badChannelIdEvents : t.file.badChannelIdEvents = s.file.badChannelIdEvents

theorem ReckonsOnly.refl (s : State) : ReckonsOnly s s := by constructor <;> rfl

theorem ReckonsOnly.trans {s t u : State} (h : ReckonsOnly s t) (h' : ReckonsOnly t u) : ReckonsOnly s u where
  buffer := h'.buffer.trans h.buffer
  config := h'.config.trans h.config
  alignment := h'.alignment.trans h.alignment
  out := h'.out.trans h.out
  fillerFrames := h'.fillerFrames.trans h.fillerFrames
  alignedOk := h'.alignedOk.trans h.alignedOk
  alignedError := h'.alignedError.trans h.alignedError
  alignmentLossEvents := h'.alignmentLossEvents.trans h.alignmentLossEvents
  badChannelIdEvents := h'.badChannelIdEvents.trans h.badChannelIdEvents

/-- The outcomes of an UNALIGNED window that is not SYNC_PATTERN (R72, R73, R74). -/
theorem WindowOutcome.reckonsOnly {s t : State} (h : WindowOutcome s t) (hw : eosAt s.p = false)
    (hs : syncHere s = false) (ha : s.alignment = .unaligned) : ReckonsOnly s t ∧ t.p = s.p + 1#16 := by
  cases h with
  | uDrError | uDrOk | uSkip => exact ⟨by constructor <;> rfl, rfl⟩
  | eosFinalize he => exact nomatch hw.symm.trans he
  | aFiller _ hs' | uSync _ hs' => exact nomatch hs.symm.trans hs'
  | aDataError _ _ ha' | aLossCrc _ _ ha' | aLossChannel _ _ ha' | aDataOk _ _ ha' => exact nomatch ha.symm.trans ha'

/-- A block that scans a buffer with no window equal to SYNC_PATTERN. -/
structure UnmatchedScan (s : State) : Prop where
  spec : SpecRun s
  inv : WindowInv s
  running : s.phase = .running
  unaligned : s.alignment = .unaligned
  unmatched : ∀ q, q + 8 ≤ 50000 → frameOfWindow (windowAt s.buffer q) ≠ s.config.syncPattern

theorem UnmatchedScan.syncHere {s : State} (hs : UnmatchedScan s) (hw : eosAt s.p = false) : syncHere s = false := by
  rw [syncHere_eq_false, State.frame, (hs.inv.faithful hs.running).window_eq hw]
  exact hs.unmatched _ (eosAt_eq_false.mp hw)

/-- A step that is not the last leads to the scan one word on. -/
theorem UnmatchedScan.step_window {s : State} (hs : UnmatchedScan s) (hw : eosAt s.p = false) :
    ∃ t, step s = .next t ∧ UnmatchedScan t ∧ ReckonsOnly s t ∧ t.p.toNat = s.p.toNat + 1 := by
  obtain ⟨t, ht⟩ := hs.spec.exists_step_running hs.running
  have houtcome := step_running_outcome hs.spec.hostOnly hs.running ht
  rw [evaluateWindow_of_unaligned hs.unaligned] at houtcome
  obtain ⟨hreckons, hp⟩ := houtcome.reckonsOnly hw (hs.syncHere hw) hs.unaligned
  obtain ⟨hspec, hrunning, -⟩ := hs.spec.step_window hs.running hw ht
  have hscan : UnmatchedScan t := {
    spec := hspec
    inv := windowInv_step_running hs.inv hs.running ht
    running := hrunning
    unaligned := hreckons.alignment.trans hs.unaligned
    unmatched := by rw [hreckons.buffer, hreckons.config]; exact hs.unmatched }
  exact ⟨t, ht, hscan, hreckons, by rw [hp, toNat_add_of_window (eosAt_eq_false.mp hw) (by decide)]⟩

/-- Where at least `n` windows are left, a drain goes on after `n` steps from a scan `n` words on. -/
theorem UnmatchedScan.drain_add (n : Nat) {s : State} (hs : UnmatchedScan s) (hn : s.p.toNat + n ≤ 49993) :
    ∃ t, UnmatchedScan t ∧ ReckonsOnly s t ∧ t.p.toNat = s.p.toNat + n ∧ ∀ m, drain (m + n) s = drain m t := by
  induction n generalizing s with
  | zero => exact ⟨s, hs, .refl s, rfl, fun _ => rfl⟩
  | succ n ih =>
    obtain ⟨t, ht, hscan, hreckons, hp⟩ := hs.step_window (eosAt_eq_false.mpr (by omega))
    obtain ⟨u, huscan, hureckons, hup, hdrain⟩ := ih hscan (by omega)
    refine ⟨u, huscan, hreckons.trans hureckons, by omega, fun m => ?_⟩
    exact (drain_running (m + n) hs.spec.hostOnly hs.running ht).trans (hdrain m)

/-- The last step of a scan finalizes its buffer and leaves the position and the alignment (R65). -/
theorem UnmatchedScan.step_endOfStream {s : State} (hs : UnmatchedScan s) (he : eosAt s.p = true) :
    ∃ t, step s = .next t ∧ t.phase = .idle ∧ t.p = s.p ∧ t.alignment = .unaligned := by
  have hop : selectedOp s = .eosFinalize := by rw [selectedOp_tree, if_pos he]
  rw [step_of_unaligned hs.spec.hostOnly hs.running hs.unaligned, hop]
  exact ⟨_, execEosFinalize_eq s, rfl, rfl, hs.unaligned⟩

/-- Settles O58: from position 0 each of 49993 windows slides one word, and at 49993 no whole window is left. -/
theorem unmatchedBufferScansEveryWord : Obligations.UnmatchedBufferScansEveryWord := by
  unfold Obligations.UnmatchedBufferScansEveryWord
  intro s hspec hinv hrunning hunaligned hp hunmatched
  have hs : UnmatchedScan s := ⟨hspec, hinv, hrunning, hunaligned, hunmatched⟩
  have hp0 : s.p.toNat = 0 := by rw [hp]; rfl
  obtain ⟨t, ht, hreckons, htp, hdrain⟩ := hs.drain_add 49993 (by omega)
  rw [hp0, Nat.zero_add] at htp
  obtain ⟨u, hstep, hidle, hup, hua⟩ := ht.step_endOfStream (eosAt_eq_true.mpr (by omega))
  have hlast : drain 1 t = .next u := drain_running 0 ht.spec.hostOnly ht.running hstep
  exact ⟨t, u, hdrain 0, ht.running, htp, ht.unaligned, hreckons.out, hreckons.fillerFrames, hreckons.alignedOk,
    hreckons.alignedError, hreckons.alignmentLossEvents, hreckons.badChannelIdEvents, (hdrain 1).trans hlast, hidle, hup,
    hua⟩

end Sys2Proof.Machine
